-- ==== Sys2Proof/Word.lean ====
section
/-! DEFINITION. The word types of the motion_read_controller (00_scope.md section 6): bytes, bits, the
7-bit bus address, and the six-byte motion sample. The hardware has no wider word (10_state.md R23). -/

namespace Sys2Proof

/-- A byte: an unsigned 8-bit value (00_scope.md section 6). -/
abbrev Byte := BitVec 8

/-- A bit; NOT and AND on bits are `~~~` and `&&&` (00_scope.md section 6). -/
abbrev Bit := BitVec 1

/-- A 7-bit address on the two-wire bus (20_memory.md R52). -/
abbrev BusAddr := BitVec 7

/-- The value of the sequencer position `PHASE` (10_state.md R24). -/
abbrev PhaseCode := BitVec 4

/-- A motion sample: six raw bytes in the order received (00_scope.md section 9, 10_state.md R21). -/
structure Sample where
  b0 : Byte
  b1 : Byte
  b2 : Byte
  b3 : Byte
  b4 : Byte
  b5 : Byte
  deriving DecidableEq, Repr, Inhabited

end Sys2Proof
end

