-- ==== Sys2Proof/Config.lean ====
section
/-! DEFINITION. The implementation parameters of 00_scope.md section 5 as one record, the outcomes a
collaborator can answer (R18), and the model's opaque free values: the open parameters, and the answers
of the environment where none is pending. -/

namespace Sys2Proof

/-- `FAIL_POLICY` (R15): what `MOTION` holds after a failed sensor read. -/
inductive FailPolicy where
  /-- `HOLD`: the registers keep the last good sample. -/
  | hold
  /-- `ZERO`: all six registers become 0x00. -/
  | zero
  /-- `DRAW`: all six registers take values the environment chooses. -/
  | draw
  deriving DecidableEq, Repr, Inhabited

/-- The outcome of `BusInit()` and of `BusWrite` (R18): one bit, every cause of failure folded into
`fail` (20_memory.md R57). -/
inductive BusResult where
  | ok
  | fail
  deriving DecidableEq, Repr, Inhabited

/-- The outcome of the six-byte `BusRead` (R18, 30_encoding.md R83): exactly six bytes, or `fail`. A read
that delivers fewer than six bytes is a `fail` (20_memory.md R58). -/
inductive ReadResult where
  | ok (bytes : Sample)
  | fail
  deriving DecidableEq, Repr, Inhabited

/-- The outcome of `StreamWrite` (R18). -/
inductive StreamResult where
  | accept
  | drop
  deriving DecidableEq, Repr, Inhabited

/-- The parameters R7 to R16: constants of one build of the hardware, which no operation writes. -/
structure Config where
  /-- `HEADER` (R7). -/
  header : Byte
  /-- `HEADER_SPLIT` (R8). -/
  headerSplit : Bool
  /-- `DEV_ADDR` (R9). -/
  devAddr : BusAddr
  /-- `REG_FIRST` (R10). -/
  regFirst : Byte
  /-- `CFG0` (R11). -/
  cfg0 : Byte
  /-- `CFG1` (R11). -/
  cfg1 : Byte
  /-- `BUS_TIMEOUT_MS` (R12). -/
  busTimeoutMs : Nat
  /-- `PERIOD_MS` (R13). -/
  periodMs : Nat
  /-- `BAUD` (R14); no rule of the controller computes with it. -/
  baud : Nat
  /-- `FAIL_POLICY` (R15). -/
  failPolicy : FailPolicy
  /-- `TX_TIMEOUT_MS` (R16); open, and used by no rule. -/
  txTimeoutMs : Nat
  deriving DecidableEq, Repr

/-! ## Open parameters of the standard build (00_scope.md R9 to R11, R13, R16; log entry 2) -/

/-- `DEV_ADDR` of the standard build: the spec gives no value. -/
opaque Config.openDevAddr : BusAddr
/-- `REG_FIRST` of the standard build: the spec gives no value. -/
opaque Config.openRegFirst : Byte
/-- `CFG0` of the standard build: the spec gives no value. -/
opaque Config.openCfg0 : Byte
/-- `CFG1` of the standard build: the spec gives no value. -/
opaque Config.openCfg1 : Byte
/-- One less than `PERIOD_MS` of the standard build: the spec gives no value and says that it is positive. -/
opaque Config.openPeriodLessOne : Nat
/-- `TX_TIMEOUT_MS` of the standard build: the spec gives no value. -/
opaque Config.openTxTimeoutMs : Nat

/-! ## Answers of the environment where none is pending (00_scope.md R18 "draw"; log entry 1) -/

/-- The answer of `BusInit()` at a count of answers already given (93 U12). -/
opaque Config.freeBusInit : Nat → BusResult
/-- The answer of a `BusWrite` (93 U12). -/
opaque Config.freeBusWrite : Nat → BusResult
/-- The answer of a `BusRead` (93 U9, U12). -/
opaque Config.freeBusRead : Nat → ReadResult
/-- The level of the button pin (93 U10). -/
opaque Config.freeButton : Nat → Bit
/-- The answer of a `StreamWrite` (93 U11). -/
opaque Config.freeStream : Nat → StreamResult
/-- The six draws of `fail_motion()` under `DRAW` (41_bus_sequencer.md R107, 93 U1). -/
opaque Config.freeFill : Nat → Sample

/-- The standard build: every parameter at the default the spec gives, the open ones opaque. -/
def Config.standard : Config where
  header := 0xAA#8
  headerSplit := false
  devAddr := Config.openDevAddr
  regFirst := Config.openRegFirst
  cfg0 := Config.openCfg0
  cfg1 := Config.openCfg1
  busTimeoutMs := 1000
  periodMs := Config.openPeriodLessOne + 1
  baud := 9600
  failPolicy := .hold
  txTimeoutMs := Config.openTxTimeoutMs

end Sys2Proof
end

