-- ==== Sys2Proof/Syntax.lean ====
section
/-! DEFINITION. The nine operations of the hard-wired sequence (30_encoding.md R80), which stand where a
processor has instructions. An operation has no operand field (R76). -/

namespace Sys2Proof

/-- The nine operations, in the order of their codes (30_encoding.md R80). -/
inductive Instr where
  /-- `BINIT`: ask the Bus Transport to configure itself (41_bus_sequencer.md R103). -/
  | binit
  /-- `CFGW`: the 2-byte power-on configuration write (41_bus_sequencer.md R104). -/
  | cfgw
  /-- `TXH`: write the header byte alone (44_serial_tx_framer.md R153). -/
  | txh
  /-- `RSEL`: the 1-byte register-select write (41_bus_sequencer.md R105). -/
  | rsel
  /-- `BRD`: the 6-byte burst read (41_bus_sequencer.md R106). -/
  | brd
  /-- `POLL`: sample the button and make the pulse (43_edge_detector.md R137). -/
  | poll
  /-- `ENC`: build the frame (42_frame_encoder.md R123). -/
  | enc
  /-- `TXF`: write the frame (44_serial_tx_framer.md R154). -/
  | txf
  /-- `WAIT`: wait one period (45_sample_loop.md R170). -/
  | wait
  deriving DecidableEq, Repr

end Sys2Proof
end

