-- ==== Sys2Proof/Decode.lean ====
section
/-! DEFINITION. The operation codes of 30_encoding.md R80: their names, the decoder (total on the 4 bits of
`PHASE`, the reserved codes rejected by name), the encoder, the reading of a table word, and the listing
syntax of R94. -/

namespace Sys2Proof

/-! ## The nine codes (30_encoding.md R80, 10_state.md R24) -/

@[simp] abbrev Phase.binit : PhaseCode := 0x0#4
@[simp] abbrev Phase.cfgw : PhaseCode := 0x1#4
@[simp] abbrev Phase.txh : PhaseCode := 0x2#4
@[simp] abbrev Phase.rsel : PhaseCode := 0x3#4
@[simp] abbrev Phase.brd : PhaseCode := 0x4#4
@[simp] abbrev Phase.poll : PhaseCode := 0x5#4
@[simp] abbrev Phase.enc : PhaseCode := 0x6#4
@[simp] abbrev Phase.txf : PhaseCode := 0x7#4
@[simp] abbrev Phase.wait : PhaseCode := 0x8#4

/-- What a code selects: an operation, or nothing (30_encoding.md R80, R84). -/
inductive Decoded where
  | instr (i : Instr)
  /-- A reserved code, 0x9 to 0xF: it selects no operation (30_encoding.md R84). -/
  | reservedCode (code : PhaseCode)
  deriving DecidableEq, Repr

/-- The decoder: select on the 4 bits of `PHASE` (30_encoding.md R78, R80). -/
def decode (code : PhaseCode) : Decoded :=
  match code.toNat with
  | 0 => .instr .binit
  | 1 => .instr .cfgw
  | 2 => .instr .txh
  | 3 => .instr .rsel
  | 4 => .instr .brd
  | 5 => .instr .poll
  | 6 => .instr .enc
  | 7 => .instr .txf
  | 8 => .instr .wait
  | _ => .reservedCode code

/-- The encoder: the code of an operation (30_encoding.md R80). -/
def encode : Instr → PhaseCode
  | .binit => Phase.binit
  | .cfgw => Phase.cfgw
  | .txh => Phase.txh
  | .rsel => Phase.rsel
  | .brd => Phase.brd
  | .poll => Phase.poll
  | .enc => Phase.enc
  | .txf => Phase.txf
  | .wait => Phase.wait

/-- The 4 bits of `PHASE` in a word of `nbits` bits, bit 0 the least significant; a code has no bit
above bit 3 (30_encoding.md R76; log entry 3). -/
def phaseOfWord (nbits w : Nat) : PhaseCode :=
  BitVec.ofNat 4 (w % 2 ^ nbits)

/-- The operation the decoder reads from a table word; none for a reserved code. -/
def decodeTableWord (nbits w : Nat) : Option Instr :=
  match decode (phaseOfWord nbits w) with
  | .instr i => some i
  | .reservedCode _ => none

/-- The encoding of a run: the codes it executes, in order (95_test_vectors.md section 3). -/
def encodeRun (run : List Instr) : List PhaseCode :=
  run.map encode

/-- Reads the encoding of a run back; none if a code of it is reserved. -/
def decodeRun : List PhaseCode → Option (List Instr)
  | [] => some []
  | c :: cs =>
    match decode c, decodeRun cs with
    | .instr i, some is => some (i :: is)
    | _, _ => none

/-! ## Mnemonics and listing (30_encoding.md R94) -/

/-- The mnemonic of an operation: capitals, no operands (30_encoding.md R94). -/
def Instr.mnemonic : Instr → String
  | .binit => "BINIT"
  | .cfgw => "CFGW"
  | .txh => "TXH"
  | .rsel => "RSEL"
  | .brd => "BRD"
  | .poll => "POLL"
  | .enc => "ENC"
  | .txf => "TXF"
  | .wait => "WAIT"

/-- The code of an operation as the listing prints it (30_encoding.md R94). -/
def Instr.listedCode : Instr → String
  | .binit => "0x0"
  | .cfgw => "0x1"
  | .txh => "0x2"
  | .rsel => "0x3"
  | .brd => "0x4"
  | .poll => "0x5"
  | .enc => "0x6"
  | .txf => "0x7"
  | .wait => "0x8"

/-- The successor of an operation as the listing prints it (30_encoding.md R94). -/
def Instr.listedSuccessor : Instr → String
  | .binit => "-> CFGW"
  | .cfgw => "-> TXH if HEADER_SPLIT else RSEL"
  | .txh => "-> RSEL"
  | .rsel => "-> BRD if ok else POLL"
  | .brd => "-> POLL"
  | .poll => "-> ENC"
  | .enc => "-> TXF"
  | .txf => "-> WAIT"
  | .wait => "-> TXH if HEADER_SPLIT else RSEL"

/-- A listing line: code, mnemonic, successor (30_encoding.md R94). -/
def Instr.listingLine (i : Instr) : String :=
  i.listedCode ++ ": " ++ i.mnemonic ++ " ; " ++ i.listedSuccessor

end Sys2Proof
end

