-- ==== Sys2Proof/Machine/State.lean ====
section
/-! DEFINITION. The state: the seven items of 10_state.md R20, the parameter record, what the environment
holds ready (pending answers, or a bound reference sensor), and the traces of 00_scope.md section 8; the
reasons a step can stop; the state after reset (10_state.md R32). -/

namespace Sys2Proof.Machine

/-- The transmit buffer `FRAME[0..7]` (10_state.md R22): offset 0 the header, 1 to 6 the adjusted motion
bytes, 7 the trigger byte. -/
structure Frame where
  f0 : Byte
  f1 : Byte
  f2 : Byte
  f3 : Byte
  f4 : Byte
  f5 : Byte
  f6 : Byte
  f7 : Byte
  deriving DecidableEq, Repr

/-- The place a `BusTransferError` arises (60_exceptions.md R188 to R190). -/
inductive Site where
  | cfgw
  | rsel
  | brd
  deriving DecidableEq, Repr

/-- The two error kinds (60_exceptions.md R185). -/
inductive BusError where
  | busConfigError
  | busTransferError (site : Site)
  deriving DecidableEq, Repr

/-- An element of `BUSLOG` (00_scope.md section 8). -/
inductive BusEvent where
  | init (r : BusResult)
  | write (a7 : BusAddr) (bytes : List Byte) (r : BusResult)
  | read (a7 : BusAddr) (n : Nat) (r : ReadResult)
  deriving DecidableEq, Repr

/-- One call of a primitive of 00_scope.md R18, with its arguments (the timeouts and the period among them)
and its answer: an element of the model's own history `calls` (log entry 4). -/
inductive Call where
  | busInit (r : BusResult)
  | busWrite (a7 : BusAddr) (bytes : List Byte) (timeoutMs : Nat) (r : BusResult)
  | busRead (a7 : BusAddr) (n : Nat) (timeoutMs : Nat) (r : ReadResult)
  | buttonLevel (raw : Bit)
  | streamWrite (bytes : List Byte) (r : StreamResult)
  | delay (ms : Nat)
  deriving DecidableEq, Repr

/-- Sparse bytes by register number, in the canonical form of Machine/Memory.lean. -/
abbrev Memory := List Host.Cell

/-- The reference sensor of 20_memory.md section 6: a test bench may bind it behind `BusWrite` and `BusRead`. -/
structure RefSensor where
  regs : Memory
  ptr : Byte
  present : Bool
  deriving DecidableEq, Repr

/-- The answers one collaborator will give to one primitive: the pending ones, the next first, and how many have been
given; where none is pending the answer is the free value of Config at `given` (00_scope.md R6, R18; log entry 1). -/
structure Feed (α : Type) where
  pending : List α
  given : Nat
  deriving DecidableEq, Repr

/-- What the environment holds ready, per primitive. -/
structure Inputs where
  busInit : Feed BusResult
  busWrite : Feed BusResult
  busRead : Feed ReadResult
  button : Feed Bit
  stream : Feed StreamResult
  /-- The six draws of a failure under `FAIL_POLICY` = `DRAW` (41_bus_sequencer.md R107). -/
  fill : Feed Sample
  deriving DecidableEq, Repr

/-- No answer is pending, and none has been given. -/
def Inputs.empty : Inputs where
  busInit := ⟨[], 0⟩
  busWrite := ⟨[], 0⟩
  busRead := ⟨[], 0⟩
  button := ⟨[], 0⟩
  stream := ⟨[], 0⟩
  fill := ⟨[], 0⟩

/-- The machine: `motion` to `errFlags` are the controller's registers (10_state.md R20), `config` the
parameters, `inputs` and `bench` the environment, the rest history. -/
structure State where
  /-- `MOTION[0..5]` (R21). -/
  motion : Sample
  /-- `FRAME[0..7]` (R22). -/
  frame : Frame
  /-- `PHASE` (R24). -/
  phase : PhaseCode
  /-- `TRIG_PREV` (R26). -/
  trigPrev : Bit
  /-- `TRIG_OUT` (R27). -/
  trigOut : Bit
  /-- `RD_OK` (R28). -/
  rdOk : Bit
  /-- `ERRFLAGS[3:0]` (R29). -/
  errFlags : BitVec 4
  /-- The parameters (00_scope.md section 5); no operation writes them. -/
  config : Config
  /-- Pending answers of the collaborators. -/
  inputs : Inputs
  /-- The reference sensor, where a test bench has bound one. -/
  bench : Option RefSensor
  /-- `BUSLOG` (00_scope.md section 8). -/
  busLog : List BusEvent
  /-- `TXSTREAM` (00_scope.md section 8). -/
  txStream : List Byte
  /-- `ERRLOG` (00_scope.md section 8). -/
  errLog : List BusError
  /-- Every primitive call so far, in order: the model's own history. -/
  calls : List Call
  deriving DecidableEq, Repr

/-- Why a step can stop with a fault. -/
inductive Fault where
  /-- Raised by `step` alone, on a `PHASE` code 0x9 to 0xF: the spec gives such a state no step ("no step
  (stuck)", 30_encoding.md R84; 93 U6). Safe: no run from reset reaches it. -/
  | reservedPhase
  deriving DecidableEq, Repr

/-- Why a step can be refused. -/
inductive Refusal where
  /-- Raised by `exec` for an operation that has no meaning yet. Safe. No arm uses it. -/
  | notModelled (mnemonic : String)
  deriving DecidableEq, Repr

/-- The state after reset of the build with the given parameters (10_state.md R32): no answer pending, no sensor
bound, the traces empty. -/
def State.resetWith (c : Config) : State where
  motion := ⟨0#8, 0#8, 0#8, 0#8, 0#8, 0#8⟩
  frame := ⟨0#8, 0#8, 0#8, 0#8, 0#8, 0#8, 0#8, 0#8⟩
  phase := Phase.binit
  trigPrev := 0#1
  trigOut := 0#1
  rdOk := 0#1
  errFlags := 0b0000#4
  config := c
  inputs := Inputs.empty
  bench := none
  busLog := []
  txStream := []
  errLog := []
  calls := []

/-- The machine right after reset, in the standard build. -/
def State.reset : State :=
  State.resetWith Config.standard

end Sys2Proof.Machine
end

