-- ==== Sys2Proof/Machine/Flags.lean ====
section
/-! DEFINITION. Every flag computation: the press edge (43_edge_detector.md R137) and the bits of `ERRFLAGS`
(10_state.md R29). -/

namespace Sys2Proof.Machine

/-- `TRIG_OUT`: 1 only on a 0 to 1 change of `pressed` (43_edge_detector.md R137). -/
def pressEdge (pressed prev : Bit) : Bit := pressed &&& ~~~prev

/-- The code of an error: its bit number in `ERRFLAGS` (10_state.md R29, 60_exceptions.md R187 to R190). -/
def BusError.code : BusError → Nat
  | .busConfigError => 0
  | .busTransferError .cfgw => 1
  | .busTransferError .rsel => 2
  | .busTransferError .brd => 3

/-- `ERRFLAGS` with the bit of an error set, the others as they were (10_state.md R29). -/
def setErrFlag (flags : BitVec 4) (e : BusError) : BitVec 4 :=
  flags ||| (1#4 <<< e.code)

end Sys2Proof.Machine
end

