-- ==== Sys2Proof/Machine/Memory.lean ====
section
/-! DEFINITION. The register space of the reference sensor (20_memory.md R51 and section 6) as sparse bytes:
reading, writing, the canonical form; and the sensor's answers to `BusWrite` and `BusRead`. -/

namespace Sys2Proof.Machine

/-- What a register that nothing has written reads as (log entry 6). -/
def Memory.unlisted : Byte := 0x00#8

/-- The byte at a register number. -/
def Memory.read : Memory → Nat → Byte
  | [], _ => Memory.unlisted
  | (k, v) :: m, a => if k = a then v else Memory.read m a

/-- Sets the byte at a register number, keeping the canonical form. -/
def Memory.write : Memory → Nat → Byte → Memory
  | [], a, v => if v = Memory.unlisted then [] else [(a, v)]
  | (k, w) :: m, a, v =>
    if a < k then
      if v = Memory.unlisted then (k, w) :: m else (a, v) :: (k, w) :: m
    else if a = k then
      if v = Memory.unlisted then m else (a, v) :: m
    else (k, w) :: Memory.write m a v

/-- The canonical form: register numbers strictly rising and below 256, no entry equal to what an unlisted
register reads as. -/
def Memory.wf : Memory → Bool
  | [] => true
  | (k, v) :: m =>
    decide (k < 256) && decide (v ≠ Memory.unlisted) && m.all (fun e => decide (k < e.1)) && Memory.wf m

/-- Whether the sensor answers a transaction addressed to `a7` when its own address is `own`. -/
def RefSensor.answers (d : RefSensor) (own a7 : BusAddr) : Bool :=
  d.present && decide (a7 = own)

/-- The sensor's outcome of a write of one or two bytes (20_memory.md R54, section 6); the controller sends no
other length (30_encoding.md R82). -/
def RefSensor.writeResult (d : RefSensor) (own a7 : BusAddr) (bytes : List Byte) : BusResult :=
  match d.answers own a7, bytes with
  | true, [_] => .ok
  | true, [_, _] => .ok
  | _, _ => .fail

/-- The sensor after a write: one byte sets the pointer, two bytes set a register (20_memory.md R54, section 6;
the pointer after a two-byte write is 93 K4). -/
def RefSensor.afterWrite (d : RefSensor) (own a7 : BusAddr) (bytes : List Byte) : RefSensor :=
  match d.answers own a7, bytes with
  | true, [r] => { d with ptr := r }
  | true, [r, v] => { d with regs := Memory.write d.regs r.toNat v, ptr := r + 1#8 }
  | _, _ => d

/-- The register `i` places after the pointer, wrapping at 256 (20_memory.md R55; the wrap is 93 K4). -/
def RefSensor.burstByte (d : RefSensor) (i : Byte) : Byte :=
  Memory.read d.regs (d.ptr + i).toNat

/-- The sensor's outcome of a six-byte read (20_memory.md R55, section 6). -/
def RefSensor.readResult (d : RefSensor) (own a7 : BusAddr) : ReadResult :=
  if d.answers own a7 then
    .ok ⟨d.burstByte 0#8, d.burstByte 1#8, d.burstByte 2#8, d.burstByte 3#8, d.burstByte 4#8, d.burstByte 5#8⟩
  else .fail

/-- The sensor after a six-byte read: the pointer advanced by six (20_memory.md R55, R64, section 6). -/
def RefSensor.afterRead (d : RefSensor) (own a7 : BusAddr) : RefSensor :=
  if d.answers own a7 then { d with ptr := d.ptr + 6#8 } else d

/-- The canonical form of a bound sensor's registers; holds where none is bound. -/
def benchWf : Option RefSensor → Bool
  | none => true
  | some d => Memory.wf d.regs

/-- The byte a register of the bound sensor holds; none where no sensor is bound. -/
def benchRead (b : Option RefSensor) (a : Nat) : Option Byte :=
  b.map (fun d => Memory.read d.regs a)

end Sys2Proof.Machine
end

