-- ==== Sys2Proof/Machine/Operands.lean ====
section
/-! DEFINITION. Every operand the operations consume (30_encoding.md R77): bytes built from the parameters and
registers, the constants of R79, and the choice of `PHASE` at the start of a cycle. -/

namespace Sys2Proof.Machine

/-- `zext_8`: the byte whose bit 0 is the given bit (00_scope.md section 6). -/
def zext8 (b : Bit) : Byte := b.setWidth 8

/-- The six bytes of a sample in wire order. -/
def sampleBytes (m : Sample) : List Byte := [m.b0, m.b1, m.b2, m.b3, m.b4, m.b5]

/-- The sample of six zero bytes. -/
def zeroSample : Sample := ⟨0x00#8, 0x00#8, 0x00#8, 0x00#8, 0x00#8, 0x00#8⟩

/-- `FRAME[0..7]` in wire order (44_serial_tx_framer.md R151). -/
def Frame.toList (f : Frame) : List Byte := [f.f0, f.f1, f.f2, f.f3, f.f4, f.f5, f.f6, f.f7]

/-- `FRAME[1..7]` in wire order: the format `FRAME7` (30_encoding.md R92). -/
def Frame.body (f : Frame) : List Byte := [f.f1, f.f2, f.f3, f.f4, f.f5, f.f6, f.f7]

/-- The 64 bits of a frame, offset 0 first, each byte most significant bit first (30_encoding.md R86). -/
def Frame.bits (f : Frame) : BitVec 64 :=
  f.f0 ++ f.f1 ++ f.f2 ++ f.f3 ++ f.f4 ++ f.f5 ++ f.f6 ++ f.f7

/-- The two bytes of the format `BUSW2`: `[CFG0, CFG1]` (30_encoding.md R82). -/
def cfgBytes (c : Config) : List Byte := [c.cfg0, c.cfg1]

/-- The byte of the format `BUSW1`: `[REG_FIRST]` (30_encoding.md R82). -/
def selectBytes (c : Config) : List Byte := [c.regFirst]

/-- The length of the burst read, format `BUSR6` (30_encoding.md R79, R83). -/
def burstLength : Nat := 6

/-- The byte of the format `HDR1`: `[HEADER]` (30_encoding.md R92). -/
def headerBytes (c : Config) : List Byte := [c.header]

/-- The bytes of the frame write: `FRAME[1..7]` when `HEADER_SPLIT`, else `FRAME[0..7]`
(44_serial_tx_framer.md R154). -/
def frameBytes (c : Config) (f : Frame) : List Byte :=
  if c.headerSplit then f.body else f.toList

/-- The first phase of a cycle: `P_TXH` when `HEADER_SPLIT`, else `P_RSEL` (45_sample_loop.md R165). -/
def cycleStart (c : Config) : PhaseCode :=
  if c.headerSplit then Phase.txh else Phase.rsel

/-- `pressed` from the electrical level: the pin is active low (43_edge_detector.md R136, R137). -/
def pressedOf (raw : Bit) : Bit := ~~~raw

end Sys2Proof.Machine
end

