-- ==== Sys2Proof/Machine/Ops.lean ====
section
/-! DEFINITION. The shared operations: register updates, the answers of the environment, the primitives of
00_scope.md R18 with the traces they grow, raising an error (60_exceptions.md R186), and `fail_motion`
(41_bus_sequencer.md R107). There is no trap entry and no return (60_exceptions.md R197, R198): raising an
error is the whole of exception handling on this hardware. -/

namespace Sys2Proof.Machine

/-! ## Register updates -/

/-- `PHASE <- p`. -/
def setPhase (p : PhaseCode) (s : State) : State := { s with phase := p }

/-- `MOTION[0..5]`, all six together. -/
def setMotion (m : Sample) (s : State) : State := { s with motion := m }

/-- `FRAME[0..7]`, all eight together. -/
def setFrame (f : Frame) (s : State) : State := { s with frame := f }

/-- `TRIG_OUT` and `TRIG_PREV`, together. -/
def setTrigger (out prev : Bit) (s : State) : State := { s with trigOut := out, trigPrev := prev }

/-- `RD_OK <- b`. -/
def setRdOk (b : Bit) (s : State) : State := { s with rdOk := b }

/-! ## Errors -/

/-- `raise E(site)`: set the sticky flag and append to `ERRLOG`; nothing else (60_exceptions.md R186). -/
def raise (e : BusError) (s : State) : State :=
  { s with errFlags := setErrFlag s.errFlags e, errLog := s.errLog ++ [e] }

/-- Raise the error if the outcome is `fail`. -/
def raiseOnFail (r : BusResult) (e : BusError) (s : State) : State :=
  match r with
  | .ok => s
  | .fail => raise e s

/-! ## The answers of the environment (00_scope.md R18; log entry 1) -/

/-- The next answer of a feed: the first pending one, else the free value. -/
def Feed.answer {α : Type} (f : Feed α) (free : Nat → α) : α :=
  f.pending.headD (free f.given)

/-- A feed after one answer. -/
def Feed.next {α : Type} (f : Feed α) : Feed α where
  pending := f.pending.tail
  given := f.given + 1

/-- The answer to `BusInit()`. -/
def busInitAnswer (s : State) : BusResult :=
  s.inputs.busInit.answer Config.freeBusInit

/-- The answer to `BusWrite(DEV_ADDR, bytes, BUS_TIMEOUT_MS)`: the bound sensor's, else the next pending one. -/
def busWriteAnswer (bytes : List Byte) (s : State) : BusResult :=
  match s.bench with
  | some d => d.writeResult s.config.devAddr s.config.devAddr bytes
  | none => s.inputs.busWrite.answer Config.freeBusWrite

/-- The answer to `BusRead(DEV_ADDR, 6, BUS_TIMEOUT_MS)`. -/
def busReadAnswer (s : State) : ReadResult :=
  match s.bench with
  | some d => d.readResult s.config.devAddr s.config.devAddr
  | none => s.inputs.busRead.answer Config.freeBusRead

/-- The answer to `ButtonLevel()`. -/
def buttonAnswer (s : State) : Bit :=
  s.inputs.button.answer Config.freeButton

/-- The answer to `StreamWrite(bytes)`. -/
def streamAnswer (s : State) : StreamResult :=
  s.inputs.stream.answer Config.freeStream

/-- The six draws of a failure under `DRAW`. -/
def fillAnswer (s : State) : Sample :=
  s.inputs.fill.answer Config.freeFill

/-! ## The primitives (00_scope.md R18) -/

/-- The pending answers after one bus write: used up by one where no sensor is bound. -/
def inputsAfterWrite (s : State) : Inputs :=
  match s.bench with
  | some _ => s.inputs
  | none => { s.inputs with busWrite := s.inputs.busWrite.next }

/-- The bound sensor after one bus write. -/
def benchAfterWrite (bytes : List Byte) (s : State) : Option RefSensor :=
  s.bench.map (fun d => d.afterWrite s.config.devAddr s.config.devAddr bytes)

/-- The pending answers after one bus read. -/
def inputsAfterRead (s : State) : Inputs :=
  match s.bench with
  | some _ => s.inputs
  | none => { s.inputs with busRead := s.inputs.busRead.next }

/-- The bound sensor after one bus read. -/
def benchAfterRead (s : State) : Option RefSensor :=
  s.bench.map (fun d => d.afterRead s.config.devAddr s.config.devAddr)

/-- `BusInit()`, recorded in `BUSLOG`. -/
def busInit (s : State) : State :=
  { s with
    inputs := { s.inputs with busInit := s.inputs.busInit.next }
    busLog := s.busLog ++ [.init (busInitAnswer s)]
    calls := s.calls ++ [.busInit (busInitAnswer s)] }

/-- `BusWrite(DEV_ADDR, bytes, BUS_TIMEOUT_MS)`, recorded in `BUSLOG`. -/
def busWrite (bytes : List Byte) (s : State) : State :=
  { s with
    inputs := inputsAfterWrite s
    bench := benchAfterWrite bytes s
    busLog := s.busLog ++ [.write s.config.devAddr bytes (busWriteAnswer bytes s)]
    calls := s.calls ++ [.busWrite s.config.devAddr bytes s.config.busTimeoutMs (busWriteAnswer bytes s)] }

/-- `BusRead(DEV_ADDR, 6, BUS_TIMEOUT_MS)`, recorded in `BUSLOG`. -/
def busRead (s : State) : State :=
  { s with
    inputs := inputsAfterRead s
    bench := benchAfterRead s
    busLog := s.busLog ++ [.read s.config.devAddr burstLength (busReadAnswer s)]
    calls := s.calls ++ [.busRead s.config.devAddr burstLength s.config.busTimeoutMs (busReadAnswer s)] }

/-- `ButtonLevel()`. -/
def buttonLevel (s : State) : State :=
  { s with
    inputs := { s.inputs with button := s.inputs.button.next }
    calls := s.calls ++ [.buttonLevel (buttonAnswer s)] }

/-- What a stream write leaves on `TXSTREAM`: all of the bytes on `accept`, nothing on `drop`
(20_memory.md R72, 44_serial_tx_framer.md R152). -/
def delivered (bytes : List Byte) : StreamResult → List Byte
  | .accept => bytes
  | .drop => []

/-- `StreamWrite(bytes)`, with its effect on `TXSTREAM`. -/
def streamWrite (bytes : List Byte) (s : State) : State :=
  { s with
    inputs := { s.inputs with stream := s.inputs.stream.next }
    txStream := s.txStream ++ delivered bytes (streamAnswer s)
    calls := s.calls ++ [.streamWrite bytes (streamAnswer s)] }

/-- `Delay(ms)`. -/
def delay (ms : Nat) (s : State) : State :=
  { s with calls := s.calls ++ [.delay ms] }

/-! ## The failure policy -/

/-- `fail_motion()` (41_bus_sequencer.md R107). -/
def failMotion (s : State) : State :=
  match s.config.failPolicy with
  | .hold => s
  | .zero => setMotion zeroSample s
  | .draw =>
    setMotion (fillAnswer s) { s with inputs := { s.inputs with fill := s.inputs.fill.next } }

/-- What `RSEL` and `BRD` do on `fail`: raise, clear `RD_OK`, apply the policy (41_bus_sequencer.md R105, R106). -/
def failRead (site : Site) (s : State) : State :=
  failMotion (setRdOk 0#1 (raise (.busTransferError site) s))

end Sys2Proof.Machine
end

