-- ==== Sys2Proof/Machine/BusSequencer.lean ====
section
/-! DEFINITION. The bus sequencer operations: `BINIT`, `CFGW`, `RSEL`, `BRD` (41_bus_sequencer.md). -/

namespace Sys2Proof.Machine

/-- `BINIT` (R103). -/
def execBinit (s : State) : Host.Outcome State Fault Refusal :=
  .next (setPhase Phase.cfgw (raiseOnFail (busInitAnswer s) .busConfigError (busInit s)))

/-- `CFGW` (R104). -/
def execCfgw (s : State) : Host.Outcome State Fault Refusal :=
  let bytes := cfgBytes s.config
  .next (setPhase (cycleStart s.config)
    (raiseOnFail (busWriteAnswer bytes s) (.busTransferError .cfgw) (busWrite bytes s)))

/-- The state after `RSEL` by the outcome of its write (R105): on `fail` the burst read is skipped. -/
def afterSelect (r : BusResult) (s : State) : State :=
  match r with
  | .ok => setPhase Phase.brd s
  | .fail => setPhase Phase.poll (failRead .rsel s)

/-- `RSEL` (R105). -/
def execRsel (s : State) : Host.Outcome State Fault Refusal :=
  let bytes := selectBytes s.config
  .next (afterSelect (busWriteAnswer bytes s) (busWrite bytes s))

/-- The registers after a burst read by its outcome (R106): the six bytes are committed together, and only
on `ok`. -/
def commitRead (r : ReadResult) (s : State) : State :=
  match r with
  | .ok b => setRdOk 1#1 (setMotion b s)
  | .fail => failRead .brd s

/-- `BRD` (R106). -/
def execBrd (s : State) : Host.Outcome State Fault Refusal :=
  .next (setPhase Phase.poll (commitRead (busReadAnswer s) (busRead s)))

end Sys2Proof.Machine
end

