-- ==== Sys2Proof/Machine/EdgeDetector.lean ====
section
/-! DEFINITION. The edge detector operation: `POLL` (43_edge_detector.md). -/

namespace Sys2Proof.Machine

/-- `POLL` (R137): both flags from the value of `TRIG_PREV` before the operation. -/
def execPoll (s : State) : Host.Outcome State Fault Refusal :=
  let pressed := pressedOf (buttonAnswer s)
  .next (setPhase Phase.enc (setTrigger (pressEdge pressed s.trigPrev) pressed (buttonLevel s)))

end Sys2Proof.Machine
end

