-- ==== Sys2Proof/Machine/FrameEncoder.lean ====
section
/-! DEFINITION. The frame encoder: the adjustment `esc` and the operation `ENC` (42_frame_encoder.md). -/

namespace Sys2Proof.Machine

/-- `esc` (R121): a byte equal to the header is incremented modulo 256. -/
def esc (header v : Byte) : Byte :=
  if v = header then v + 1#8 else v

/-- The frame of a sample and a trigger bit (R123, layout `FRAME8` of 30_encoding.md R86). -/
def buildFrame (header : Byte) (m : Sample) (trig : Bit) : Frame where
  f0 := header
  f1 := esc header m.b0
  f2 := esc header m.b1
  f3 := esc header m.b2
  f4 := esc header m.b3
  f5 := esc header m.b4
  f6 := esc header m.b5
  f7 := zext8 trig

/-- `ENC` (R123). -/
def execEnc (s : State) : Host.Outcome State Fault Refusal :=
  .next (setPhase Phase.txf (setFrame (buildFrame s.config.header s.motion s.trigOut) s))

end Sys2Proof.Machine
end

