-- ==== Sys2Proof/Machine/SampleLoop.lean ====
section
/-! DEFINITION. The sample loop's own operation: `WAIT` (45_sample_loop.md). -/

namespace Sys2Proof.Machine

/-- `WAIT` (R170). -/
def execWait (s : State) : Host.Outcome State Fault Refusal :=
  .next (setPhase (cycleStart s.config) (delay s.config.periodMs s))

end Sys2Proof.Machine
end

