-- ==== Sys2Proof/Machine/SerialTxFramer.lean ====
section
/-! DEFINITION. The serial framer operations: `TXH`, `TXF` (44_serial_tx_framer.md). -/

namespace Sys2Proof.Machine

/-- `TXH` (R153): the byte comes from the parameter, not from `FRAME[0]`. -/
def execTxh (s : State) : Host.Outcome State Fault Refusal :=
  .next (setPhase Phase.rsel (streamWrite (headerBytes s.config) s))

/-- `TXF` (R154). -/
def execTxf (s : State) : Host.Outcome State Fault Refusal :=
  .next (setPhase Phase.wait (streamWrite (frameBytes s.config s.frame) s))

end Sys2Proof.Machine
end

