-- ==== Sys2Proof/Machine/Dispatch.lean ====
section
/-! DEFINITION. One arm per operation, each one call of its meaning. -/

namespace Sys2Proof.Machine

def exec (i : Instr) (s : State) : Host.Outcome State Fault Refusal :=
  match i with
  | .binit => Sys2Proof.Machine.execBinit s
  | .cfgw => Sys2Proof.Machine.execCfgw s
  | .txh => Sys2Proof.Machine.execTxh s
  | .rsel => Sys2Proof.Machine.execRsel s
  | .brd => Sys2Proof.Machine.execBrd s
  | .poll => Sys2Proof.Machine.execPoll s
  | .enc => Sys2Proof.Machine.execEnc s
  | .txf => Sys2Proof.Machine.execTxf s
  | .wait => Sys2Proof.Machine.execWait s

end Sys2Proof.Machine
end

