-- ==== Sys2Proof/Machine/Step.lean ====
section
/-! DEFINITION. One step: the operation `PHASE` selects (45_sample_loop.md R174); and the setting of `PHASE` to a
table word, since this hardware selects its operation and fetches none (20_memory.md R50). -/

namespace Sys2Proof.Machine

/-- One step (45_sample_loop.md R174): a reserved code has no step (30_encoding.md R84). -/
def step (s : State) : Host.Outcome State Fault Refusal :=
  match decode s.phase with
  | .instr i => exec i s
  | .reservedCode _ => .fault .reservedPhase

/-- The state in which the next step runs the operation of a table word: `PHASE` holds its code. -/
def State.withFetchWord (s : State) (nbits w : Nat) : State :=
  { s with phase := phaseOfWord nbits w }

end Sys2Proof.Machine
end

