-- ==== Sys2Proof/Machine/Ports.lean ====
section
/-! DEFINITION. The signal-level view of 10_state.md R35 (92_eei_decisions.md D2), as functions of the state: what the
output ports carry while the operation named by `PHASE` executes, and the answers the input ports stand for.
No other definition of the model reads it. -/

namespace Sys2Proof.Machine

/-- The output ports. A port the spec gives a value only under a request is none (or has no byte) without one. -/
structure PortsOut where
  busReq : Bit
  busOp : Option (BitVec 2)
  busAddr : Option BusAddr
  busWlen : Option (BitVec 2)
  /-- `bus_wdata`, the bytes that are written: byte `i` in bits `8*i+7 : 8*i`. -/
  busWdata : List Byte
  busRlen : BitVec 3
  txReq : Bit
  txLen : Option (BitVec 4)
  /-- `tx_data`, the bytes of the write: byte `i` in bits `8*i+7 : 8*i`. -/
  txData : List Byte
  tmrStart : Bit
  phase : PhaseCode
  rdOk : Bit
  errFlags : BitVec 4
  deriving DecidableEq, Repr

/-- The ports with nothing requested: the status outputs alone. -/
def idlePorts (s : State) : PortsOut where
  busReq := 0#1
  busOp := none
  busAddr := none
  busWlen := none
  busWdata := []
  busRlen := 6#3
  txReq := 0#1
  txLen := none
  txData := []
  tmrStart := 0#1
  phase := s.phase
  rdOk := s.rdOk
  errFlags := s.errFlags

/-- The ports under a `BusWrite` of the given bytes. -/
def busWritePorts (bytes : List Byte) (s : State) : PortsOut :=
  { idlePorts s with
    busReq := 1#1
    busOp := some 1#2
    busAddr := some s.config.devAddr
    busWlen := some (BitVec.ofNat 2 bytes.length)
    busWdata := bytes }

/-- The ports under a `StreamWrite` of the given bytes. -/
def streamWritePorts (bytes : List Byte) (s : State) : PortsOut :=
  { idlePorts s with
    txReq := 1#1
    txLen := some (BitVec.ofNat 4 bytes.length)
    txData := bytes }

/-- The output ports while the operation named by `PHASE` executes. -/
def portsOut (s : State) : PortsOut :=
  match decode s.phase with
  | .instr .binit => { idlePorts s with busReq := 1#1, busOp := some 0#2 }
  | .instr .cfgw => busWritePorts (cfgBytes s.config) s
  | .instr .txh => streamWritePorts (headerBytes s.config) s
  | .instr .rsel => busWritePorts (selectBytes s.config) s
  | .instr .brd =>
    { idlePorts s with busReq := 1#1, busOp := some 2#2, busAddr := some s.config.devAddr }
  | .instr .poll => idlePorts s
  | .instr .enc => idlePorts s
  | .instr .txf => streamWritePorts (frameBytes s.config s.frame) s
  | .instr .wait => { idlePorts s with tmrStart := 1#1 }
  | .reservedCode _ => idlePorts s

/-- `bus_wdata` or `tx_data` as a number: byte `i` in bits `8*i+7 : 8*i`. -/
def lanesValue : List Byte → Nat
  | [] => 0
  | b :: bs => b.toNat + 256 * lanesValue bs

/-- The answer `bus_ok` stands for, valid with `bus_done`. -/
def busResultOfPort (busOk : Bit) : BusResult :=
  if busOk = 1#1 then .ok else .fail

/-- The answer `bus_ok` and `bus_rdata` stand for on a read: byte `i` of the result in bits `8*i+7 : 8*i`. -/
def readResultOfPorts (busOk : Bit) (busRdata : BitVec 48) : ReadResult :=
  if busOk = 1#1 then
    .ok ⟨busRdata.extractLsb' 0 8, busRdata.extractLsb' 8 8, busRdata.extractLsb' 16 8,
      busRdata.extractLsb' 24 8, busRdata.extractLsb' 32 8, busRdata.extractLsb' 40 8⟩
  else .fail

/-- The answer `tx_accept` stands for, valid with `tx_done`. -/
def streamResultOfPort (txAccept : Bit) : StreamResult :=
  if txAccept = 1#1 then .accept else .drop

end Sys2Proof.Machine
end

