-- ==== Sys2Proof/Machine/PseudoOps.lean ====
section
/-! DEFINITION. The pseudo-operations of 30_encoding.md R95 and the memory primitives of 00_scope.md R19, as their
expansions into operations and bus primitives. -/

namespace Sys2Proof.Machine

/-- Go on from a next state; a fault or a refusal ends. -/
def andThen (o : Host.Outcome State Fault Refusal) (f : State → Host.Outcome State Fault Refusal) :
    Host.Outcome State Fault Refusal :=
  match o with
  | .next s => f s
  | .fault r => .fault r
  | .refused r => .refused r

/-- `read_motion()`: `RSEL`; `BRD`, the `BRD` skipped when `RSEL` fails (R95, 41_bus_sequencer.md R100). -/
def readMotion (s : State) : Host.Outcome State Fault Refusal :=
  andThen (exec .rsel s) (fun t => if t.phase = Phase.brd then exec .brd t else .next t)

/-- Startup configuration: `BINIT`; `CFGW` (R95). -/
def startUp (s : State) : Host.Outcome State Fault Refusal :=
  andThen (exec .binit s) (exec .cfgw)

/-- The separate header write at the start of a cycle, where the build has it (45_sample_loop.md R165). -/
def headerWrite (s : State) : Host.Outcome State Fault Refusal :=
  if s.config.headerSplit then exec .txh s else .next s

/-- One sample cycle: [`TXH`;] `RSEL`; [`BRD`;] `POLL`; `ENC`; `TXF`; `WAIT` (R95). -/
def sampleCycle (s : State) : Host.Outcome State Fault Refusal :=
  andThen (headerWrite s) fun a =>
  andThen (readMotion a) fun b =>
  andThen (exec .poll b) fun c =>
  andThen (exec .enc c) fun d =>
  andThen (exec .txf d) (exec .wait)

/-- `MemWrite(reg, 1, v)` on the sensor register space: one two-byte write (00_scope.md R19). -/
def memWrite (reg v : Byte) (s : State) : State := busWrite [reg, v] s

/-- `MemRead(reg, 6)`: a select write, then a six-byte read (00_scope.md R19); its answer and the state after it.
DESIGN CHOICE (log entry 17), for R19 does not say it: after a failed select the read is issued all the same, and the answer
is the read's alone. The controller's own pair is `readMotion`, which skips the read (R105, decision D11). -/
def memRead (reg : Byte) (s : State) : ReadResult × State :=
  let t := busWrite [reg] s
  (busReadAnswer t, busRead t)

end Sys2Proof.Machine
end

