-- ==== Sys2Proof/Machine/Reset.lean ====
section
/-! DEFINITION. Reset of a running controller (70_reset_and_hazards.md R215 to R218): the start of a new run, not a
step. -/

namespace Sys2Proof.Machine

/-- The state in which a new run starts after reset is asserted on a state: every register at its reset value, the
traces empty, the parameters as they were, the collaborators not reached (R217). -/
def State.afterReset (s : State) : State :=
  { State.resetWith s.config with inputs := s.inputs, bench := s.bench }

end Sys2Proof.Machine
end

