-- ==== Sys2Proof/WellFormed.lean ====
section
/-! DEFINITION. Well-formedness: an operation has no operand, so every operation is well formed; a
parameter record is well formed when the quantities the spec calls positive are positive. -/

namespace Sys2Proof

/-- Every operation is well formed: no operand is encoded (30_encoding.md R76). -/
def Instr.wf : Instr → Bool
  | .binit => true
  | .cfgw => true
  | .txh => true
  | .rsel => true
  | .brd => true
  | .poll => true
  | .enc => true
  | .txf => true
  | .wait => true

/-- `BUS_TIMEOUT_MS`, `PERIOD_MS` and `BAUD` are positive integers (00_scope.md R12, R13, R14). Every value
of every other parameter is accepted (00_scope.md R7, 92_eei_decisions.md D22). -/
def Config.wf (c : Config) : Bool :=
  decide (0 < c.busTimeoutMs) && decide (0 < c.periodMs) && decide (0 < c.baud)

end Sys2Proof
end

