-- ==== Sys2Proof/Safety.lean ====
section
/-! DEFINITION. The terms claims are stated in: runs of several steps, the legal phases, the frame invariant, the
shape of the traces. -/

namespace Sys2Proof.Machine

/-- `k` steps, stopping at the first fault or refusal. -/
def runSteps : Nat → State → Host.Outcome State Fault Refusal
  | 0, s => .next s
  | k + 1, s => andThen (step s) (runSteps k)

/-- `PHASE` holds one of the nine legal codes (10_state.md R24). -/
def legalPhase (s : State) : Bool :=
  decide (s.phase.toNat ≤ 8)

/-- The registers of the bound sensor, where there is one, are in canonical form. -/
def memoryWf (s : State) : Bool :=
  benchWf s.bench

/-- The successor table (45_sample_loop.md R165); `selected` is whether the write of `RSEL` returned `ok`. -/
def successor (c : Config) (selected : Bool) : Instr → PhaseCode
  | .binit => Phase.cfgw
  | .cfgw => cycleStart c
  | .txh => Phase.rsel
  | .rsel => if selected then Phase.brd else Phase.poll
  | .brd => Phase.poll
  | .poll => Phase.enc
  | .enc => Phase.txf
  | .txf => Phase.wait
  | .wait => cycleStart c

/-- The frame invariant of 10_state.md R33: the header first, no header among the motion bytes, the trigger byte
0x00 or 0x01. -/
def FrameBuilt (header : Byte) (f : Frame) : Prop :=
  f.f0 = header ∧
  (f.f1 ≠ header ∧ f.f2 ≠ header ∧ f.f3 ≠ header ∧ f.f4 ≠ header ∧ f.f5 ≠ header ∧ f.f6 ≠ header) ∧
  (f.f7 = 0x00#8 ∨ f.f7 = 0x01#8)

/-- `TRIG_OUT == 1` implies `TRIG_PREV == 1` (10_state.md R34). -/
def PulseWhilePressed (s : State) : Prop :=
  s.trigOut = 1#1 → s.trigPrev = 1#1

/-- A bit of `ERRFLAGS` is set exactly when its error stands in `ERRLOG` (60_exceptions.md R193). -/
def FlagsMirrorLog (s : State) : Prop :=
  ∀ e : BusError, s.errFlags.getLsbD e.code = true ↔ e ∈ s.errLog

/-- The error a bus event stands for: none unless its result is `fail`. -/
def BusEvent.error : BusEvent → Option BusError
  | .init .fail => some .busConfigError
  | .write _ [_, _] .fail => some (.busTransferError .cfgw)
  | .write _ [_] .fail => some (.busTransferError .rsel)
  | .read _ _ .fail => some (.busTransferError .brd)
  | _ => none

/-- `ERRLOG` holds the failures of `BUSLOG`, in order (00_scope.md section 8). -/
def ErrLogIsBusFailures (s : State) : Prop :=
  s.errLog = s.busLog.filterMap BusEvent.error

/-- Where the run stands in the shape of `BUSLOG` (41_bus_sequencer.md R108). -/
inductive LogStage where
  /-- Nothing logged. -/
  | start
  /-- `Init(r0)` logged. -/
  | initialised
  /-- Between two bus accesses of different cycles. -/
  | idle
  /-- A select that returned `ok` logged, its burst read not yet. -/
  | selected
  deriving DecidableEq, Repr

/-- One bus event in the shape of `BUSLOG`; none where the shape does not admit it. -/
def LogStage.after (c : Config) : LogStage → BusEvent → Option LogStage
  | .start, .init _ => some .initialised
  | .initialised, .write a7 bytes _ =>
    if a7 = c.devAddr ∧ bytes = cfgBytes c then some .idle else none
  | .idle, .write a7 bytes r =>
    if a7 = c.devAddr ∧ bytes = selectBytes c then
      match r with
      | .ok => some .selected
      | .fail => some .idle
    else none
  | .selected, .read a7 n _ => if a7 = c.devAddr ∧ n = burstLength then some .idle else none
  | _, _ => none

/-- The stage after a whole log. -/
def logStage (c : Config) (log : List BusEvent) : Option LogStage :=
  log.foldl (fun stage e => stage.bind (fun g => g.after c e)) (some .start)

/-- The stage that belongs to a phase. -/
def stageOfPhase (p : PhaseCode) : LogStage :=
  if p = Phase.binit then .start
  else if p = Phase.cfgw then .initialised
  else if p = Phase.brd then .selected
  else .idle

/-- `BUSLOG` has the shape of 41_bus_sequencer.md R108, up to where `PHASE` stands. -/
def BusLogShaped (s : State) : Prop :=
  logStage s.config s.busLog = some (stageOfPhase s.phase)

/-- The bytes are a concatenation of whole frames, each satisfying the frame invariant (44_serial_tx_framer.md
R156). -/
def WholeFrames (header : Byte) (bytes : List Byte) : Prop :=
  ∃ frames : List Frame, bytes = frames.flatMap Frame.toList ∧ ∀ f ∈ frames, FrameBuilt header f

/-- What makes every frame write of a folded build whole: the header is not split, the separate header write is not
next, the frame is built when the frame write is next, and the stream is whole frames so far. -/
def FoldedStream (s : State) : Prop :=
  s.config.headerSplit = false ∧ s.phase ≠ Phase.txh ∧
  (s.phase = Phase.txf → FrameBuilt s.config.header s.frame) ∧
  WholeFrames s.config.header s.txStream

/-- The bytes a call put on the stream. -/
def Call.sent : Call → List Byte
  | .streamWrite bytes r => delivered bytes r
  | _ => []

/-- `TXSTREAM` is the bytes of the accepted stream writes, in the order requested (20_memory.md R72). -/
def StreamIsAcceptedWrites (s : State) : Prop :=
  s.txStream = s.calls.flatMap Call.sent

/-- The length of a timed wait a call asked for. -/
def Call.delayMs : Call → Option Nat
  | .delay ms => some ms
  | _ => none

/-- The trace `TXREQ`: every stream write requested, with its outcome (00_scope.md section 8). -/
def txReq (s : State) : List (List Byte × StreamResult) :=
  s.calls.filterMap fun
    | .streamWrite bytes r => some (bytes, r)
    | _ => none

/-- Whether a call is a bus write. -/
def Call.isBusWrite : Call → Bool
  | .busWrite _ _ _ _ => true
  | _ => false

/-- Whether a call is a bus read. -/
def Call.isBusRead : Call → Bool
  | .busRead _ _ _ _ => true
  | _ => false

/-- Whether the output ports carry the request that a call records (10_state.md R35). -/
def portsCarry (p : PortsOut) : Call → Prop
  | .busInit _ => p.busReq = 1#1 ∧ p.busOp = some 0#2
  | .busWrite a7 bytes _ _ =>
    p.busReq = 1#1 ∧ p.busOp = some 1#2 ∧ p.busAddr = some a7 ∧ p.busWdata = bytes ∧
    p.busWlen.map BitVec.toNat = some bytes.length
  | .busRead a7 n _ _ =>
    p.busReq = 1#1 ∧ p.busOp = some 2#2 ∧ p.busAddr = some a7 ∧ p.busRlen.toNat = n
  | .buttonLevel _ => p.busReq = 0#1 ∧ p.txReq = 0#1 ∧ p.tmrStart = 0#1
  | .streamWrite bytes _ =>
    p.txReq = 1#1 ∧ p.txData = bytes ∧ p.txLen.map BitVec.toNat = some bytes.length
  | .delay _ => p.tmrStart = 1#1

/-- Consecutive polls, one for each pin level, with nothing in between that writes the tracker's bits: the outputs
`TRIG_OUT`, and `TRIG_PREV` at the end. -/
def pollRun : List Bit → State → List Bit × Bit
  | [], s => ([], s.trigPrev)
  | raw :: raws, s =>
    match exec .poll { s with inputs := { s.inputs with button := ⟨[raw], 0⟩ } } with
    | .next t => let r := pollRun raws t; (t.trigOut :: r.1, r.2)
    | _ => ([], s.trigPrev)

end Sys2Proof.Machine
end

