-- ==== Sys2Proof/Certificates/Slice0/Obligations.lean ====
section
/-! DEFINITION. The statements for the provers, from the numbered rules of spec/. Rules the spec itself marks
as its decisions (D<n> of 92_eei_decisions.md) or as derived are named as such in the docstrings. -/

open Sys2Proof Sys2Proof.Machine

/-! ## Encodings, the step, reset -/

/-- The nine 4-bit codes, written out from 30_encoding.md R80 (decision D3), select their operations. Of words handed over
as the opcode table numbers them, three samples: 0x3 in 4 bits is `RSEL`, 0x8 in 8 bits is `WAIT`, 0x9 in 4 bits is no
operation; reading the low 4 bits of such a word is the model's choice (log entry 3). -/
def Obligations.OperationCodesSelectTheirOperations : Prop :=
  decode 0b0000#4 = .instr .binit ∧ decode 0b0001#4 = .instr .cfgw ∧ decode 0b0010#4 = .instr .txh ∧
  decode 0b0011#4 = .instr .rsel ∧ decode 0b0100#4 = .instr .brd ∧ decode 0b0101#4 = .instr .poll ∧
  decode 0b0110#4 = .instr .enc ∧ decode 0b0111#4 = .instr .txf ∧ decode 0b1000#4 = .instr .wait ∧
  decodeTableWord 4 0x3 = some .rsel ∧ decodeTableWord 8 0x8 = some .wait ∧ decodeTableWord 4 0x9 = none

/-- The encoding of a run of operations (95_test_vectors.md section 3) decodes back to that run, and a sequence of codes
that decodes to a run is that run's encoding (codes: decision D3). -/
def Obligations.RunEncodingDecodesBackToTheRun : Prop :=
  (∀ run : List Instr, decodeRun (encodeRun run) = some run) ∧
  (∀ (codes : List PhaseCode) (run : List Instr), decodeRun codes = some run → encodeRun run = codes)

/-- When `PHASE` holds the code of a well-formed operation, a step is that operation's effect and nothing else
(45_sample_loop.md R174, derived there). The second clause is about the model's own device `withFetchWord` and is the
model's choice (log entry 7; the low 4 bits of the word, log entry 3): the word it sets is the one that runs. -/
def Obligations.StepRunsTheSelectedOperation : Prop :=
  (∀ (s : State) (i : Instr), i.wf = true → decode s.phase = .instr i → step s = exec i s) ∧
  (∀ (s : State) (nbits w : Nat) (i : Instr), decodeTableWord nbits w = some i →
    step (s.withFetchWord nbits w) = exec i (s.withFetchWord nbits w))

/-- A reserved code 0x9 to 0xF has no step (30_encoding.md R84, decision D18); every legal code has one
(45_sample_loop.md R168, decision D23). That the missing step is the fault `reservedPhase` is the model's choice (log
entry 8). -/
def Obligations.ExactlyTheReservedCodesHaveNoStep : Prop :=
  (∀ s : State, 9 ≤ s.phase.toNat → step s = .fault .reservedPhase) ∧
  (∀ s : State, s.phase.toNat ≤ 8 → ∃ t, step s = .next t)

/-- Reset puts every register at the value of 10_state.md R32 (decisions D3, D10, D13, D15, D17; the document itself
states `TRIG_PREV` only), empties the traces and does not reach the collaborators; the standard build has the default
parameters of 00_scope.md R7, R8, R12, R14, R15. The empty `calls`, the standard build's empty inputs, its
unbound sensor and `afterReset` are the model's own (log entries 4, 1, 6 and 9). -/
def Obligations.ResetLeavesEveryRegisterAtItsResetValue : Prop :=
  (∀ s : State, s.afterReset =
    { motion := ⟨0#8, 0#8, 0#8, 0#8, 0#8, 0#8⟩
      frame := ⟨0#8, 0#8, 0#8, 0#8, 0#8, 0#8, 0#8, 0#8⟩
      phase := 0x0#4, trigPrev := 0#1, trigOut := 0#1, rdOk := 0#1, errFlags := 0b0000#4
      config := s.config, inputs := s.inputs, bench := s.bench
      busLog := [], txStream := [], errLog := [], calls := [] }) ∧
  State.reset = { State.reset.afterReset with inputs := Inputs.empty, bench := none } ∧
  State.reset.config.header = 0xAA#8 ∧ State.reset.config.headerSplit = false ∧
  State.reset.config.busTimeoutMs = 1000 ∧ State.reset.config.baud = 9600 ∧
  State.reset.config.failPolicy = .hold ∧ State.reset.config.wf = true

/-- What the answers are (00_scope.md R18: a draw; the pending lists are the model's own form of the draws, log
entry 1): the next pending answer of the primitive's own list, where no sensor is bound for the bus. -/
def Obligations.PendingAnswersAreGivenInOrder : Prop :=
  (∀ (s : State) r rest, s.inputs.busInit.pending = r :: rest →
    busInitAnswer s = r ∧ (busInit s).inputs.busInit.pending = rest) ∧
  (∀ (s : State) bytes r rest, s.bench = none → s.inputs.busWrite.pending = r :: rest →
    busWriteAnswer bytes s = r ∧ (busWrite bytes s).inputs.busWrite.pending = rest) ∧
  (∀ (s : State) r rest, s.bench = none → s.inputs.busRead.pending = r :: rest →
    busReadAnswer s = r ∧ (busRead s).inputs.busRead.pending = rest) ∧
  (∀ (s : State) raw rest, s.inputs.button.pending = raw :: rest →
    buttonAnswer s = raw ∧ (buttonLevel s).inputs.button.pending = rest) ∧
  (∀ (s : State) bytes r rest, s.inputs.stream.pending = r :: rest →
    streamAnswer s = r ∧ (streamWrite bytes s).inputs.stream.pending = rest) ∧
  (∀ (s : State) m rest, s.config.failPolicy = .draw → s.inputs.fill.pending = m :: rest →
    fillAnswer s = m ∧ (failMotion s).inputs.fill.pending = rest)

/-! ## Results: one statement for each operation, its whole next state -/

/-- `BINIT` (41_bus_sequencer.md R103, decision D14): asks the transport to configure itself, records the answer, sets
`ERRFLAGS[0]` on `fail`, goes to `CFGW` whatever the answer; nothing else is written. -/
def Obligations.BinitRecordsTheAnswerAndGoesToCfgw : Prop :=
  ∀ s : State, exec .binit s = .next { s with
    phase := 0x1#4
    errFlags := if busInitAnswer s = .fail then s.errFlags ||| 0b0001#4 else s.errFlags
    errLog := if busInitAnswer s = .fail then s.errLog ++ [.busConfigError] else s.errLog
    busLog := s.busLog ++ [.init (busInitAnswer s)]
    inputs := { s.inputs with busInit := s.inputs.busInit.next }
    calls := s.calls ++ [.busInit (busInitAnswer s)] }

/-- `CFGW` (41_bus_sequencer.md R104): one write of `[CFG0, CFG1]` to `DEV_ADDR` under `BUS_TIMEOUT_MS`, `ERRFLAGS[1]`
on `fail`, the successor by `HEADER_SPLIT` whatever the outcome; it follows every `BINIT`, failed or not, nothing
else leads to it, and nothing leads back to `BINIT`. -/
def Obligations.CfgwSendsTheConfigurationOnce : Prop :=
  encode .cfgw = 0x1#4 ∧
  (∀ s : State, exec .cfgw s =
    let bytes := [s.config.cfg0, s.config.cfg1]
    let r := busWriteAnswer bytes s
    .next { s with
      phase := if s.config.headerSplit then 0x2#4 else 0x3#4
      errFlags := if r = .fail then s.errFlags ||| 0b0010#4 else s.errFlags
      errLog := if r = .fail then s.errLog ++ [.busTransferError .cfgw] else s.errLog
      busLog := s.busLog ++ [.write s.config.devAddr bytes r]
      inputs := inputsAfterWrite s
      bench := benchAfterWrite bytes s
      calls := s.calls ++ [.busWrite s.config.devAddr bytes s.config.busTimeoutMs r] }) ∧
  (∀ s : State, ∃ t, exec .binit s = .next t ∧ t.phase = 0x1#4) ∧
  (∀ s t : State, step s = .next t → t.phase ≠ 0x0#4 ∧ (t.phase = 0x1#4 → s.phase = 0x0#4))

/-- `TXH` (44_serial_tx_framer.md R153, decision D6): one write of the byte `HEADER`, from the parameter; `RSEL` next,
whatever the outcome; nothing else is written. -/
def Obligations.TxhWritesTheHeaderAlone : Prop :=
  ∀ s : State, exec .txh s = .next { s with
    phase := 0x3#4
    txStream := if streamAnswer s = .accept then s.txStream ++ [s.config.header] else s.txStream
    inputs := { s.inputs with stream := s.inputs.stream.next }
    calls := s.calls ++ [.streamWrite [s.config.header] (streamAnswer s)] }

/-- `RSEL` (41_bus_sequencer.md R105, decision D11): one write of `[REG_FIRST]`; on `ok` the burst read is next and no
flag changes; on `fail` `ERRFLAGS[2]` is set, `RD_OK` cleared, the failure policy applied and the burst read
skipped. -/
def Obligations.RselSelectsOrSkipsTheBurstRead : Prop :=
  ∀ s : State,
    let bytes := [s.config.regFirst]
    (busWriteAnswer bytes s = .ok → exec .rsel s = .next { s with
      phase := 0x4#4
      busLog := s.busLog ++ [.write s.config.devAddr bytes .ok]
      inputs := inputsAfterWrite s
      bench := benchAfterWrite bytes s
      calls := s.calls ++ [.busWrite s.config.devAddr bytes s.config.busTimeoutMs .ok] }) ∧
    (busWriteAnswer bytes s = .fail → exec .rsel s = .next { failMotion { s with
      errFlags := s.errFlags ||| 0b0100#4
      errLog := s.errLog ++ [.busTransferError .rsel]
      rdOk := 0#1
      busLog := s.busLog ++ [.write s.config.devAddr bytes .fail]
      inputs := inputsAfterWrite s
      bench := benchAfterWrite bytes s
      calls := s.calls ++ [.busWrite s.config.devAddr bytes s.config.busTimeoutMs .fail] } with
        phase := 0x5#4 })

/-- `BRD` (41_bus_sequencer.md R106): one read of six bytes from `DEV_ADDR`; on `ok` the six bytes are stored raw in
arrival order and `RD_OK` set; on `fail` `ERRFLAGS[3]` is set, `RD_OK` cleared and the failure policy applied; `POLL`
next; reached only from an `RSEL` whose write returned `ok`. -/
def Obligations.BrdCommitsTheSixBytesOnlyOnOk : Prop :=
  encode .brd = 0x4#4 ∧
  (∀ (s : State) (b : Sample), busReadAnswer s = .ok b → exec .brd s = .next { s with
    motion := b
    rdOk := 1#1
    phase := 0x5#4
    busLog := s.busLog ++ [.read s.config.devAddr 6 (.ok b)]
    inputs := inputsAfterRead s
    bench := benchAfterRead s
    calls := s.calls ++ [.busRead s.config.devAddr 6 s.config.busTimeoutMs (.ok b)] }) ∧
  (∀ s : State, busReadAnswer s = .fail → exec .brd s = .next { failMotion { s with
    errFlags := s.errFlags ||| 0b1000#4
    errLog := s.errLog ++ [.busTransferError .brd]
    rdOk := 0#1
    busLog := s.busLog ++ [.read s.config.devAddr 6 .fail]
    inputs := inputsAfterRead s
    bench := benchAfterRead s
    calls := s.calls ++ [.busRead s.config.devAddr 6 s.config.busTimeoutMs .fail] } with
      phase := 0x5#4 }) ∧
  (∀ s t : State, step s = .next t → t.phase = 0x4#4 →
    s.phase = 0x3#4 ∧ busWriteAnswer [s.config.regFirst] s = .ok)

/-- `fail_motion()` (41_bus_sequencer.md R107, decision D10): `HOLD` changes nothing, `ZERO` clears the six motion
registers, `DRAW` sets them to the environment's six draws; nothing else is written. -/
def Obligations.FailurePolicyDecidesTheMotionRegisters : Prop :=
  (∀ s : State, s.config.failPolicy = .hold → failMotion s = s) ∧
  (∀ s : State, s.config.failPolicy = .zero →
    failMotion s = { s with motion := ⟨0#8, 0#8, 0#8, 0#8, 0#8, 0#8⟩ }) ∧
  (∀ s : State, s.config.failPolicy = .draw →
    failMotion s = { s with
      motion := fillAnswer s
      inputs := { s.inputs with fill := s.inputs.fill.next } })

/-- `POLL` (43_edge_detector.md R137): `pressed` is the inverted level, `TRIG_OUT` is 1 only on its 0 to 1 change,
`TRIG_PREV` takes it unconditionally, both from `TRIG_PREV` before; `ENC` next; nothing else is written. -/
def Obligations.PollDetectsThePressEdge : Prop :=
  encode .poll = 0x5#4 ∧
  ∀ s : State, exec .poll s = .next { s with
    trigOut := ~~~buttonAnswer s &&& ~~~s.trigPrev
    trigPrev := ~~~buttonAnswer s
    phase := 0x6#4
    inputs := { s.inputs with button := s.inputs.button.next }
    calls := s.calls ++ [.buttonLevel (buttonAnswer s)] }

/-- The complete truth table of `POLL` (43_edge_detector.md R138, derived there). -/
def Obligations.PollFollowsItsTruthTable : Prop :=
  ∀ (s : State) (raw : Bit) (rest : List Bit), s.inputs.button.pending = raw :: rest →
    ∃ t, exec .poll s = .next t ∧
      (s.trigPrev = 0#1 → raw = 1#1 → t.trigOut = 0#1 ∧ t.trigPrev = 0#1) ∧
      (s.trigPrev = 0#1 → raw = 0#1 → t.trigOut = 1#1 ∧ t.trigPrev = 1#1) ∧
      (s.trigPrev = 1#1 → raw = 0#1 → t.trigOut = 0#1 ∧ t.trigPrev = 1#1) ∧
      (s.trigPrev = 1#1 → raw = 1#1 → t.trigOut = 0#1 ∧ t.trigPrev = 0#1)

/-- `ENC` (42_frame_encoder.md R123): the header, the six motion bytes each incremented if equal to the header, the
trigger byte; `TXF` next; nothing else is written, so `MOTION`, `TRIG_OUT` and `TRIG_PREV` stay. -/
def Obligations.EncBuildsTheFrame : Prop :=
  encode .enc = 0x6#4 ∧
  ∀ s : State, exec .enc s =
    let adjust := fun v : Byte => if v = s.config.header then v + 1#8 else v
    .next { s with
      frame := ⟨s.config.header, adjust s.motion.b0, adjust s.motion.b1, adjust s.motion.b2,
        adjust s.motion.b3, adjust s.motion.b4, adjust s.motion.b5, s.trigOut.setWidth 8⟩
      phase := 0x7#4 }

/-- `TXF` writes the eight bytes of the frame in order, or the seven after the header when `HEADER_SPLIT`, as one
write, adding no byte of its own (44_serial_tx_framer.md R151); `WAIT` next, whatever the outcome; nothing else is
written. -/
def Obligations.TxfWritesTheFrameInOrder : Prop :=
  ∀ s : State, exec .txf s =
    let f := s.frame
    let bytes := if s.config.headerSplit then [f.f1, f.f2, f.f3, f.f4, f.f5, f.f6, f.f7]
      else [f.f0, f.f1, f.f2, f.f3, f.f4, f.f5, f.f6, f.f7]
    .next { s with
      phase := 0x8#4
      txStream := if streamAnswer s = .accept then s.txStream ++ bytes else s.txStream
      inputs := { s.inputs with stream := s.inputs.stream.next }
      calls := s.calls ++ [.streamWrite bytes (streamAnswer s)] }

/-- `WAIT` (45_sample_loop.md R170): one timed wait of `PERIOD_MS`, then the start of a cycle; every register keeps its
value, no answer of the pin, the bus or the stream is taken. -/
def Obligations.WaitSuspendsForOnePeriod : Prop :=
  encode .wait = 0x8#4 ∧
  ∀ s : State, exec .wait s = .next { s with
    phase := if s.config.headerSplit then 0x2#4 else 0x3#4
    calls := s.calls ++ [.delay s.config.periodMs] }

/-! ## The frame encoder -/

/-- `esc` (42_frame_encoder.md R121), on the numbers the bytes stand for. -/
def Obligations.EscapeIncrementsTheHeaderModulo256 : Prop :=
  (∀ header v : Byte, (esc header v).toNat =
    if v.toNat = header.toNat then (v.toNat + 1) % 256 else v.toNat) ∧
  esc 0xAA#8 0xAA#8 = 0xAB#8 ∧ (∀ v : Byte, v ≠ 0xAA#8 → esc 0xAA#8 v = v)

/-- The laws of `esc` (42_frame_encoder.md R122, derived there), for every header: never the header, idempotent,
exactly the header and its successor merged, 255 values in the image, a wrap only for the header 0xFF. -/
def Obligations.EscapeLawsForEveryHeader : Prop :=
  ∀ header : Byte,
    (∀ v, esc header v ≠ header) ∧
    (∀ v, esc header (esc header v) = esc header v) ∧
    (∀ v w, esc header v = esc header w ↔
      v = w ∨ (v = header ∧ w = header + 1#8) ∨ (v = header + 1#8 ∧ w = header)) ∧
    (Finset.univ.image (fun k : Fin 256 => esc header (BitVec.ofFin k))).card = 255 ∧
    (∀ v, (esc header v).toNat < v.toNat ↔ v = header ∧ header = 0xFF#8)

/-- The frame `ENC` builds: `HEADER` first (30_encoding.md R87), then the six adjusted bytes in order, none of them
`HEADER` (R88). -/
def Obligations.FrameCarriesTheAdjustedBytesInOrder : Prop :=
  ∀ s : State, ∃ t, exec .enc s = .next t ∧
    t.frame.f0 = s.config.header ∧
    [t.frame.f1, t.frame.f2, t.frame.f3, t.frame.f4, t.frame.f5, t.frame.f6] =
      (sampleBytes s.motion).map (esc s.config.header) ∧
    (∀ v ∈ [t.frame.f1, t.frame.f2, t.frame.f3, t.frame.f4, t.frame.f5, t.frame.f6], v ≠ s.config.header)

/-- The trigger byte (30_encoding.md R89): 0x01 in the frame of the cycle in which `POLL` saw the press edge, 0x00 in
every other, for every header, so it is not adjusted. -/
def Obligations.TriggerByteMarksThePressEdge : Prop :=
  ∀ s : State, ∃ t u, exec .poll s = .next t ∧ exec .enc t = .next u ∧
    u.frame.f7 = if s.trigPrev = 0#1 ∧ buttonAnswer s = 0#1 then 0x01#8 else 0x00#8

/-- The bits of a frame, offset 0 first, each byte most significant bit first, and its length (30_encoding.md R86). -/
def Obligations.FrameIsEightBytesInTheLayout : Prop :=
  ∀ (header : Byte) (m : Sample) (trig : Bit),
    let f := buildFrame header m trig
    f.toList.length = 8 ∧ f.body.length = 7 ∧ f.toList = header :: f.body ∧
    f.bits = header ++ esc header m.b0 ++ esc header m.b1 ++ esc header m.b2 ++ esc header m.b3 ++
      esc header m.b4 ++ esc header m.b5 ++ (0#7 ++ trig)

/-! ## Frames, and what is read by nothing -/

/-- Each operation writes only what its row of the state table lists (10_state.md section 1, R20, derived there): the
frame of all nine operations. A sensor's registers are read through `benchRead`; only the configuration write
changes one, and no register but `CFG0` (20_memory.md R54, decision D25). -/
def Obligations.EachOperationWritesOnlyItsOwnState : Prop :=
  ∀ (i : Instr) (s t : State), exec i s = .next t →
    t.config = s.config ∧
    (i ≠ .binit → t.inputs.busInit = s.inputs.busInit) ∧
    (i ≠ .cfgw → i ≠ .rsel → t.inputs.busWrite = s.inputs.busWrite) ∧
    (i ≠ .brd → t.inputs.busRead = s.inputs.busRead) ∧
    (i ≠ .rsel → i ≠ .brd → t.motion = s.motion ∧ t.rdOk = s.rdOk ∧ t.inputs.fill = s.inputs.fill) ∧
    (i ≠ .enc → t.frame = s.frame) ∧
    (i ≠ .poll → t.trigPrev = s.trigPrev ∧ t.trigOut = s.trigOut ∧ t.inputs.button = s.inputs.button) ∧
    (i ≠ .binit → i ≠ .cfgw → i ≠ .rsel → i ≠ .brd →
      t.errFlags = s.errFlags ∧ t.errLog = s.errLog ∧ t.busLog = s.busLog ∧ t.bench = s.bench) ∧
    (i ≠ .txh → i ≠ .txf → t.txStream = s.txStream ∧ t.inputs.stream = s.inputs.stream) ∧
    (i ≠ .cfgw → ∀ a, benchRead t.bench a = benchRead s.bench a) ∧
    (i = .cfgw → ∀ a, a ≠ s.config.cfg0.toNat → benchRead t.bench a = benchRead s.bench a)

/-- `TRIG_PREV` is read and written by `POLL` and by nothing else (43_edge_detector.md R145): `POLL` takes its output from
the old value and writes the new one; any other operation leaves the bit, and does the same whatever it holds. -/
def Obligations.OnlyPollReadsOrWritesTrigPrev : Prop :=
  (∀ s t : State, exec .poll s = .next t →
    t.trigOut = ~~~buttonAnswer s &&& ~~~s.trigPrev ∧ t.trigPrev = ~~~buttonAnswer s) ∧
  (∀ (i : Instr) (s t : State) (b : Bit), i ≠ .poll → exec i s = .next t →
    t.trigPrev = s.trigPrev ∧ exec i { s with trigPrev := b } = .next { t with trigPrev := b })

/-- Nothing about errors is ever sent (44_serial_tx_framer.md R158): whatever `RD_OK` and `ERRFLAGS` hold, a step makes
the same frame, stream, traces and every other item of state. -/
def Obligations.StatusBitsReachNothingElse : Prop :=
  ∀ (s t : State) (b : Bit) (flags : BitVec 4), step s = .next t →
    ∃ u, step { s with rdOk := b, errFlags := flags } = .next u ∧
      { u with rdOk := t.rdOk, errFlags := t.errFlags } = t

/-- The traces only grow (00_scope.md section 8), and a step makes at most one primitive call (45_sample_loop.md R174,
derived there) and raises at most one error (60_exceptions.md R196, derived there). -/
def Obligations.TracesGrowByAtMostOneEvent : Prop :=
  ∀ s t : State, step s = .next t →
    (∃ e, e.length ≤ 1 ∧ t.busLog = s.busLog ++ e) ∧ (∃ e, t.txStream = s.txStream ++ e) ∧
    (∃ e, e.length ≤ 1 ∧ t.errLog = s.errLog ++ e) ∧ (∃ e, e.length ≤ 1 ∧ t.calls = s.calls ++ e)

/-- The only bus writes are `[CFG0, CFG1]` by `CFGW` and `[REG_FIRST]` by `RSEL`, the only bus read is of six bytes by
`BRD`, each to `DEV_ADDR` under `BUS_TIMEOUT_MS` (30_encoding.md R82, R83). -/
def Obligations.BusCarriesOnlyTheThreeFormats : Prop :=
  ∀ (i : Instr) (s t : State), exec i s = .next t →
    (∀ a7 bytes ms r, .busWrite a7 bytes ms r ∈ t.calls.drop s.calls.length →
      a7 = s.config.devAddr ∧ ms = s.config.busTimeoutMs ∧
      ((i = .cfgw ∧ bytes = [s.config.cfg0, s.config.cfg1]) ∨ (i = .rsel ∧ bytes = [s.config.regFirst]))) ∧
    (∀ a7 n ms r, .busRead a7 n ms r ∈ t.calls.drop s.calls.length →
      i = .brd ∧ a7 = s.config.devAddr ∧ ms = s.config.busTimeoutMs ∧ n = 6) ∧
    (i = .cfgw → ∃ r, t.calls = s.calls ++
      [.busWrite s.config.devAddr [s.config.cfg0, s.config.cfg1] s.config.busTimeoutMs r]) ∧
    (i = .rsel → ∃ r, t.calls = s.calls ++
      [.busWrite s.config.devAddr [s.config.regFirst] s.config.busTimeoutMs r]) ∧
    (i = .brd → ∃ r, t.calls = s.calls ++ [.busRead s.config.devAddr 6 s.config.busTimeoutMs r])

/-! ## Errors -/

/-- Raising an error sets its own bit of `ERRFLAGS`, appends it to `ERRLOG`, and does nothing else
(60_exceptions.md R186, decision D13; the bit numbers are R187 to R190). -/
def Obligations.RaisingSetsOneBitAndLogsOneEvent : Prop :=
  (∀ (e : BusError) (s : State), raise e s =
    { s with errFlags := (raise e s).errFlags, errLog := s.errLog ++ [e] } ∧
    ∀ k < 4, (raise e s).errFlags.getLsbD k = (s.errFlags.getLsbD k || decide (k = e.code))) ∧
  BusError.code .busConfigError = 0 ∧ BusError.code (.busTransferError .cfgw) = 1 ∧
  BusError.code (.busTransferError .rsel) = 2 ∧ BusError.code (.busTransferError .brd) = 3

/-- No step clears a bit of `ERRFLAGS`, or changes one without an event of that bit (60_exceptions.md R193, decision
D13; 10_state.md R29). -/
def Obligations.ErrorFlagsAreSticky : Prop :=
  ∀ (s t : State) (k : Nat), step s = .next t →
    (s.errFlags.getLsbD k = true → t.errFlags.getLsbD k = true) ∧
    (t.errFlags.getLsbD k ≠ s.errFlags.getLsbD k → ∃ e : BusError, e.code = k ∧ t.errLog = s.errLog ++ [e])

/-- Every step keeps: a bit of `ERRFLAGS` is set exactly when its error stands in `ERRLOG` (60_exceptions.md R193,
decision D13). -/
def Obligations.ErrorFlagsMirrorTheErrorLog : Prop :=
  ∀ s t : State, FlagsMirrorLog s → step s = .next t → FlagsMirrorLog t

/-- Every step keeps: `ERRLOG` is the failures of `BUSLOG`, in order (00_scope.md section 8; 60_exceptions.md
R192: a dropped stream write is not one). -/
def Obligations.ErrorLogIsTheFailuresOfTheBusLog : Prop :=
  ∀ s t : State, ErrLogIsBusFailures s → step s = .next t → ErrLogIsBusFailures t

/-! ## Control flow -/

/-- The successor of every operation is the one of the table (45_sample_loop.md R165, decision D12), and every operation
has one, whatever the answers. -/
def Obligations.EverySuccessorIsTheTables : Prop :=
  ∀ (i : Instr) (s : State), ∃ t, exec i s = .next t ∧
    t.phase = successor s.config (decide (busWriteAnswer [s.config.regFirst] s = .ok)) i

/-- Every step keeps `PHASE` among the nine legal codes (10_state.md R24, decision D3; 30_encoding.md R84). -/
def Obligations.StepsKeepPhaseLegal : Prop :=
  ∀ s t : State, legalPhase s = true → step s = .next t → legalPhase t = true

/-- `RSEL` and `BRD` are tried at most once in a cycle; `BINIT` and `CFGW` once per reset, each whatever the outcome, for
reset leads to the one, it to the other, and no step returns to them (41_bus_sequencer.md R102). -/
def Obligations.NoRetryInsideACycle : Prop :=
  (∀ s t : State, sampleCycle s = .next t →
    (t.calls.drop s.calls.length).countP Call.isBusWrite = 1 ∧
    (t.calls.drop s.calls.length).countP Call.isBusRead ≤ 1) ∧
  (∀ s : State, s.afterReset.phase = Phase.binit ∧ ∃ t, step s.afterReset = .next t ∧ t.phase = Phase.cfgw) ∧
  (∀ s t : State, step s = .next t →
    t.phase ≠ Phase.binit ∧ (t.phase = Phase.cfgw → s.phase = Phase.binit))

/-- From the start of a cycle the steps of the machine are one sample cycle, 5 or 6 steps folded and one more split
(30_encoding.md R94, R95, decision D4; 45_sample_loop.md R165; 95_test_vectors.md VL10), and end at the start of a
cycle. That each operation ends rests on log entry 10 (PRESUMED: every collaborator answers; R175, decision D24). -/
def Obligations.StepsOfACycleAreTheSampleCycle : Prop :=
  ∀ s : State, s.phase = cycleStart s.config →
    ∃ k t, k = (if s.config.headerSplit then 1 else 0) +
        (if busWriteAnswer [s.config.regFirst] s = .ok then 6 else 5) ∧
      runSteps k s = .next t ∧ sampleCycle s = .next t ∧ t.phase = cycleStart t.config

/-- From every legal phase the frame write comes within seven steps, whatever the answers: no failure and no drop
prevents it (45_sample_loop.md R169, derived there). It rests on log entry 10 (PRESUMED: every collaborator answers; R175,
decision D24). -/
def Obligations.EveryCycleReachesTheFrameWrite : Prop :=
  ∀ s : State, legalPhase s = true → ∃ k t, k ≤ 7 ∧ runSteps k s = .next t ∧ t.phase = Phase.txf

/-- Between two consecutive frame writes there is exactly one timed wait, of `PERIOD_MS` (45_sample_loop.md R171). That the
cadence is one wait requested, with no time stamps, is the model's choice (log entry 11, decision D1); that the next frame
write comes rests on log entry 10 (PRESUMED: every collaborator answers; R175, decision D24). -/
def Obligations.OneWholeWaitBetweenFrameWrites : Prop :=
  ∀ s : State, s.phase = Phase.txf →
    ∃ k t, 0 < k ∧ runSteps k s = .next t ∧ t.phase = Phase.txf ∧
      (∀ j u, 0 < j → j < k → runSteps j s = .next u → u.phase ≠ Phase.txf) ∧
      (t.calls.drop s.calls.length).filterMap Call.delayMs = [s.config.periodMs]

/-- Start-up (45_sample_loop.md R167, derived there): two steps from `BINIT` are `BINIT`; `CFGW`, and the first cycle is
next, whatever the answers. It rests on log entry 10 (PRESUMED: every collaborator answers; R175, decision D24). -/
def Obligations.StartUpIsTwoStepsThenTheFirstCycle : Prop :=
  ∀ s : State, s.phase = Phase.binit →
    ∃ t, runSteps 2 s = .next t ∧ startUp s = .next t ∧ t.phase = cycleStart s.config

/-! ## Cycles -/

/-- `read_motion()` (41_bus_sequencer.md R100): the pair `RSEL`, `BRD`; it ends with `RD_OK` 1 and the six bytes in
`MOTION` when both transactions complete; it fails, with `RD_OK` 0 and the matching bit of `ERRFLAGS` set, when either
does not. The last clause, that a failed select is the only call, is not R100's: the burst read is skipped by decision D11
(R105, log entry 15). -/
def Obligations.ReadMotionFailsExactlyWhenABusAccessFails : Prop :=
  ∀ s : State,
    let selected := busWriteAnswer [s.config.regFirst] s
    let burst := busReadAnswer (busWrite [s.config.regFirst] s)
    ∃ t, readMotion s = .next t ∧
      (∀ b, selected = .ok → burst = .ok b → t.rdOk = 1#1 ∧ t.motion = b ∧ t.errFlags = s.errFlags) ∧
      (selected = .ok → burst = .fail → t.rdOk = 0#1 ∧ t.errFlags.getLsbD 3 = true) ∧
      (selected = .fail → t.rdOk = 0#1 ∧ t.errFlags.getLsbD 2 = true) ∧
      (selected = .ok → t.calls = s.calls ++
        [.busWrite s.config.devAddr [s.config.regFirst] s.config.busTimeoutMs .ok,
          .busRead s.config.devAddr 6 s.config.busTimeoutMs burst]) ∧
      (selected = .fail → t.calls = s.calls ++
        [.busWrite s.config.devAddr [s.config.regFirst] s.config.busTimeoutMs .fail])

/-- A folded cycle whose answers are all good: the six bytes go from the sensor to the stream in order, adjusted, under
the header and before the trigger byte (20_memory.md R61, derived there; 45_sample_loop.md R165, decision D12), with
the requests in the order of 20_memory.md R67. -/
def Obligations.GoodCycleCarriesTheSampleToTheStream : Prop :=
  ∀ (s : State) (m : Sample) (raw : Bit) writes reads levels outcomes,
    s.phase = Phase.rsel → s.config.headerSplit = false → s.bench = none →
    s.inputs.busWrite.pending = .ok :: writes → s.inputs.busRead.pending = .ok m :: reads →
    s.inputs.button.pending = raw :: levels → s.inputs.stream.pending = .accept :: outcomes →
    let trigger : Byte := if s.trigPrev = 0#1 ∧ raw = 0#1 then 0x01#8 else 0x00#8
    let sent := s.config.header :: (sampleBytes m).map (esc s.config.header) ++ [trigger]
    ∃ t, runSteps 6 s = .next t ∧ t.phase = Phase.rsel ∧ t.motion = m ∧ t.rdOk = 1#1 ∧
      t.trigPrev = ~~~raw ∧ t.errFlags = s.errFlags ∧ t.errLog = s.errLog ∧
      t.txStream = s.txStream ++ sent ∧
      t.busLog = s.busLog ++
        [.write s.config.devAddr [s.config.regFirst] .ok, .read s.config.devAddr 6 (.ok m)] ∧
      t.calls = s.calls ++
        [.busWrite s.config.devAddr [s.config.regFirst] s.config.busTimeoutMs .ok,
          .busRead s.config.devAddr 6 s.config.busTimeoutMs (.ok m), .buttonLevel raw,
          .streamWrite sent .accept, .delay s.config.periodMs]

/-- A folded cycle in which the read fails under `HOLD`, at the select or at the burst, still writes a frame, and the
frame carries the sample held before: nothing in it shows the failure (45_sample_loop.md R169, 70_reset_and_hazards.md
R235, derived there; decision D10). -/
def Obligations.FailedReadUnderHoldSendsTheOldSample : Prop :=
  ∀ (s : State) (raw : Bit) writes levels outcomes (r : BusResult),
    s.phase = Phase.rsel → s.config.headerSplit = false → s.config.failPolicy = .hold → s.bench = none →
    s.inputs.busWrite.pending = r :: writes → (r = .ok → s.inputs.busRead.pending.head? = some .fail) →
    s.inputs.button.pending = raw :: levels → s.inputs.stream.pending = .accept :: outcomes →
    let trigger : Byte := if s.trigPrev = 0#1 ∧ raw = 0#1 then 0x01#8 else 0x00#8
    ∃ t, sampleCycle s = .next t ∧ t.motion = s.motion ∧ t.rdOk = 0#1 ∧
      t.txStream = s.txStream ++
        (s.config.header :: (sampleBytes s.motion).map (esc s.config.header) ++ [trigger]) ∧
      t.errLog = s.errLog ++ [.busTransferError (if r = .ok then .brd else .rsel)]

/-- With `HEADER_SPLIT` the two writes of a cycle are accepted or dropped independently, giving the four outcomes of
44_serial_tx_framer.md R157 (derived there; decision D6), and when both are accepted the stream grows by the eight bytes
of the frame (30_encoding.md R92, derived there). -/
def Obligations.SplitCycleHasFourOutcomes : Prop :=
  ∀ (s : State) (header frame : StreamResult) outcomes,
    s.phase = Phase.txh → s.config.headerSplit = true → s.inputs.stream.pending = header :: frame :: outcomes →
    ∃ t, sampleCycle s = .next t ∧ FrameBuilt s.config.header t.frame ∧
      t.txStream = s.txStream ++ (match header, frame with
        | .accept, .accept => t.frame.toList
        | .accept, .drop => [s.config.header]
        | .drop, .accept => t.frame.body
        | .drop, .drop => [])

/-- In one cycle at most one `BusTransferError` is logged (41_bus_sequencer.md R110, derived there). -/
def Obligations.AtMostOneErrorPerCycle : Prop :=
  ∀ s t : State, sampleCycle s = .next t →
    t.errLog = s.errLog ∨ t.errLog = s.errLog ++ [.busTransferError .rsel] ∨
    t.errLog = s.errLog ++ [.busTransferError .brd]

/-! ## The button -/

/-- Holding the button for `n + 1` polls after a released level gives one 1 and then `n` zeros, and a release gives 0
(43_edge_detector.md R139, derived there). -/
def Obligations.OnePulsePerPress : Prop :=
  ∀ (s : State) (n : Nat), s.trigPrev = 0#1 →
    pollRun (List.replicate (n + 1) 0#1 ++ [1#1]) s = (1#1 :: List.replicate n 0#1 ++ [0#1], 0#1)

/-- Two consecutive polls never both pulse (10_state.md R34, derived there). -/
def Obligations.NoTwoPulsesInARow : Prop :=
  ∀ (raws : List Bit) (s : State) (k : Nat),
    ¬ ((pollRun raws s).1[k]? = some 1#1 ∧ (pollRun raws s).1[k + 1]? = some 1#1)

/-- Every step keeps: `TRIG_OUT == 1` implies `TRIG_PREV == 1` (10_state.md R34, derived there). -/
def Obligations.PulseImpliesPressedIsKept : Prop :=
  ∀ s t : State, PulseWhilePressed s → step s = .next t → PulseWhilePressed t

/-! ## Invariants of the frame, the bus log and the stream -/

/-- `ENC` establishes the frame invariant and every step keeps it (10_state.md R33, derived there). -/
def Obligations.FrameInvariantFromTheFirstEncOn : Prop :=
  (∀ s : State, ∃ t, exec .enc s = .next t ∧ FrameBuilt t.config.header t.frame) ∧
  (∀ s t : State, FrameBuilt s.config.header s.frame → step s = .next t → FrameBuilt t.config.header t.frame)

/-- Every step keeps the shape of `BUSLOG` (41_bus_sequencer.md R108, derived there): one `Init`, one configuration
write, then for each cycle a failed select alone, or a good select and one burst read. -/
def Obligations.BusLogKeepsItsShape : Prop :=
  ∀ s t : State, BusLogShaped s → step s = .next t → BusLogShaped t

/-- Every step keeps: `TXSTREAM` is exactly the bytes of the accepted stream writes, in the order requested, each write
whole and contiguous (20_memory.md R72). -/
def Obligations.StreamIsTheAcceptedWritesInOrder : Prop :=
  ∀ s t : State, StreamIsAcceptedWrites s → step s = .next t → StreamIsAcceptedWrites t

/-- In a folded build every step keeps: `TXSTREAM` is a concatenation of whole frames, each satisfying the frame
invariant (44_serial_tx_framer.md R156, derived there). -/
def Obligations.FoldedStreamStaysWholeFrames : Prop :=
  ∀ s t : State, FoldedStream s → step s = .next t → FoldedStream t

/-- On a stream of whole frames, with a header other than 0x00 and 0x01, the header value occurs at the frame starts and
nowhere else (70_reset_and_hazards.md R231, derived there). -/
def Obligations.HeaderOccursOnlyAtFrameStarts : Prop :=
  ∀ s : State, FoldedStream s → s.config.header ≠ 0x00#8 → s.config.header ≠ 0x01#8 →
    ∀ (k : Nat) (b : Byte), s.txStream[k]? = some b → (b = s.config.header ↔ k % 8 = 0)

/-- Reset, with any parameters, meets every invariant stated here; the stream invariant for a folded build, and the frame
invariant is no claim at reset (10_state.md R33 speaks from the first `ENC` on). -/
def Obligations.ResetMeetsEveryInvariant : Prop :=
  (∀ c : Config, let s := State.resetWith c
    legalPhase s = true ∧ memoryWf s = true ∧ FlagsMirrorLog s ∧ ErrLogIsBusFailures s ∧ PulseWhilePressed s ∧
    BusLogShaped s ∧ StreamIsAcceptedWrites s ∧ (c.headerSplit = false → FoldedStream s)) ∧
  FoldedStream State.reset

/-! ## The reference sensor and the ports -/

/-- Every step keeps the registers of a bound sensor in canonical form (the model's own form of 20_memory.md section 6,
log entry 6). -/
def Obligations.StepsKeepTheSensorMemoryCanonical : Prop :=
  ∀ s t : State, memoryWf s = true → step s = .next t → memoryWf t = true

/-- With a present sensor bound, the configuration write sets register `CFG0` to `CFG1` and no other
(20_memory.md R54, decision D25), and a select followed by the burst read loads `MOTION` with six consecutive registers
from `REG_FIRST` on, the lowest first (R55), and changes no register. -/
def Obligations.BoundSensorAnswersFromItsRegisters : Prop :=
  (∀ (s : State) (d : RefSensor), s.bench = some d → d.present = true → memoryWf s = true →
    ∃ t, exec .cfgw s = .next t ∧ t.errFlags = s.errFlags ∧
      ∀ a, benchRead t.bench a = some (if a = s.config.cfg0.toNat then s.config.cfg1 else Memory.read d.regs a)) ∧
  (∀ (s : State) (d : RefSensor), s.bench = some d → d.present = true → s.config.regFirst.toNat + 5 ≤ 0xFF →
    ∃ t, readMotion s = .next t ∧ t.rdOk = 1#1 ∧
      sampleBytes t.motion = (List.range 6).map (fun i => Memory.read d.regs (s.config.regFirst.toNat + i)) ∧
      ∀ a, benchRead t.bench a = benchRead s.bench a) ∧
  (∀ (s : State) (d : RefSensor), s.bench = some d → d.present = false →
    ∃ t, readMotion s = .next t ∧ t.rdOk = 0#1 ∧ t.bench = s.bench)

/-- The two sensor accesses are the memory primitives of 00_scope.md R19 (derived there): `CFGW` is `MemWrite(CFG0, 1,
CFG1)`, and `read_motion()` with a select that completes is `MemRead(REG_FIRST, 6)`. Where the select fails nothing is
claimed: what `MemRead` answers then is left open there (log entry 17). -/
def Obligations.SensorAccessesAreTheMemoryPrimitives : Prop :=
  (∀ s : State, ∃ t, exec .cfgw s = .next t ∧
    let u := memWrite s.config.cfg0 s.config.cfg1 s
    t.calls = u.calls ∧ t.busLog = u.busLog ∧ t.bench = u.bench ∧ t.inputs = u.inputs) ∧
  (∀ s : State, busWriteAnswer [s.config.regFirst] s = .ok → ∃ t, readMotion s = .next t ∧
    let m := memRead s.config.regFirst s
    t.calls = m.2.calls ∧ t.busLog = m.2.busLog ∧ t.bench = m.2.bench ∧ (∀ b, m.1 = .ok b → t.motion = b))

/-- The input ports stand for the answers (10_state.md R35, decision D2): byte `i` of a read in bits `8*i+7 : 8*i` of
`bus_rdata`, one bit for every other outcome. -/
def Obligations.InputPortsCarryTheAnswers : Prop :=
  (∀ b : Sample, readResultOfPorts 1#1 (BitVec.ofNat 48 (lanesValue (sampleBytes b))) = .ok b) ∧
  (∀ data : BitVec 48, readResultOfPorts 0#1 data = .fail) ∧
  busResultOfPort 1#1 = .ok ∧ busResultOfPort 0#1 = .fail ∧
  streamResultOfPort 1#1 = .accept ∧ streamResultOfPort 0#1 = .drop

/-- The output ports carry, while an operation executes, the request it makes (10_state.md R35, decision D2). -/
def Obligations.PortsCarryTheRequestOfTheOperation : Prop :=
  ∀ (s t : State) (c : Call), step s = .next t → t.calls = s.calls ++ [c] → portsCarry (portsOut s) c
end

