-- ==== Sys2Proof/Laws/Memory.lean ====
section
/-! SUPPORT. The sensor's register space: reading after writing, and the canonical form kept by every operation
over it. -/

namespace Sys2Proof.Machine

theorem Memory.wf_cons (k : Nat) (v : Byte) (m : Memory) :
    Memory.wf ((k, v) :: m) = true ↔
      k < 256 ∧ v ≠ Memory.unlisted ∧ (∀ e ∈ m, k < e.1) ∧ Memory.wf m = true := by
  simp [Memory.wf, and_assoc]

/-- A register below every listed one reads as unlisted. -/
theorem Memory.read_of_lt (m : Memory) (a : Nat) (h : ∀ e ∈ m, a < e.1) :
    Memory.read m a = Memory.unlisted := by
  induction m with
  | nil => rfl
  | cons e m ih =>
    have ha : e.1 ≠ a := (Nat.ne_of_lt (h e (by simp))).symm
    simp [Memory.read, ha, ih (fun e he => h e (by simp [he]))]

/-- A write leaves every other register alone. -/
theorem Memory.read_write_of_ne (m : Memory) (a b : Nat) (v : Byte) (h : b ≠ a) :
    Memory.read (Memory.write m a v) b = Memory.read m b := by
  induction m with
  | nil => unfold Memory.write; split <;> simp [Memory.read, h.symm]
  | cons e m ih =>
    obtain ⟨k, w⟩ := e
    unfold Memory.write
    split
    · split <;> simp [Memory.read, h.symm]
    · split
      · subst_vars; split <;> simp [Memory.read, h.symm]
      · simp [Memory.read, ih]

/-- A register reads as what was written to it. -/
theorem Memory.read_write_same (m : Memory) (a : Nat) (v : Byte) (hm : Memory.wf m = true) :
    Memory.read (Memory.write m a v) a = v := by
  induction m with
  | nil => unfold Memory.write; split <;> simp_all [Memory.read]
  | cons e m ih =>
    obtain ⟨k, w⟩ := e
    obtain ⟨-, -, hk, hm⟩ := (Memory.wf_cons k w m).1 hm
    unfold Memory.write
    split
    · rename_i hak
      have hr : Memory.read ((k, w) :: m) a = Memory.unlisted :=
        Memory.read_of_lt _ _ (by
          intro e he
          rcases List.mem_cons.1 he with rfl | he
          · exact hak
          · exact hak.trans (hk e he))
      split
      · simp_all
      · simp [Memory.read]
    · split
      · rename_i hak
        split
        · rename_i hv; rw [hv, hak]; exact Memory.read_of_lt _ _ hk
        · simp [Memory.read]
      · rename_i hak
        rw [Memory.read, if_neg (Ne.symm hak)]
        exact ih hm

theorem Memory.mem_write (m : Memory) (a : Nat) (v : Byte) (e : Host.Cell) (h : e ∈ Memory.write m a v) :
    e ∈ m ∨ e = (a, v) := by
  induction m with
  | nil => unfold Memory.write at h; split at h <;> simp_all
  | cons c m ih =>
    obtain ⟨k, w⟩ := c
    unfold Memory.write at h
    split at h
    · split at h <;> simp_all; tauto
    · split at h
      · split at h <;> simp_all; tauto
      · simp_all; tauto

/-- A write keeps the canonical form. -/
theorem Memory.wf_write (m : Memory) (a : Nat) (v : Byte) (ha : a < 256) (hm : Memory.wf m = true) :
    Memory.wf (Memory.write m a v) = true := by
  induction m with
  | nil => unfold Memory.write; split <;> simp_all [Memory.wf]
  | cons e m ih =>
    obtain ⟨k, w⟩ := e
    obtain ⟨hk256, hw, hk, hm'⟩ := (Memory.wf_cons k w m).1 hm
    unfold Memory.write
    split
    · rename_i hak
      split
      · exact hm
      · refine (Memory.wf_cons _ _ _).2 ⟨ha, by assumption, ?_, hm⟩
        intro e he
        rcases List.mem_cons.1 he with rfl | he
        · exact hak
        · exact hak.trans (hk e he)
    · split
      · subst_vars
        split
        · exact hm'
        · exact (Memory.wf_cons _ _ _).2 ⟨ha, by assumption, hk, hm'⟩
      · refine (Memory.wf_cons _ _ _).2 ⟨hk256, hw, ?_, ih hm'⟩
        intro e he
        rcases Memory.mem_write m a v e he with he | rfl
        · exact hk e he
        · omega

/-- A write transaction keeps the sensor's registers canonical. -/
theorem RefSensor.afterWrite_wf (d : RefSensor) (own a7 : BusAddr) (bytes : List Byte)
    (h : Memory.wf d.regs = true) : Memory.wf (d.afterWrite own a7 bytes).regs = true := by
  unfold RefSensor.afterWrite
  split
  · exact h
  · exact Memory.wf_write _ _ _ (BitVec.isLt _) h
  · exact h

/-- A read transaction changes no register. -/
@[simp] theorem RefSensor.afterRead_regs (d : RefSensor) (own a7 : BusAddr) :
    (d.afterRead own a7).regs = d.regs := by
  unfold RefSensor.afterRead; split <;> rfl

/-- A one-byte write changes no register. -/
@[simp] theorem RefSensor.afterWrite_one_regs (d : RefSensor) (own a7 : BusAddr) (r : Byte) :
    (d.afterWrite own a7 [r]).regs = d.regs := by
  unfold RefSensor.afterWrite; split <;> simp_all

/-- A two-byte write changes no register but the one it names. -/
theorem RefSensor.afterWrite_two_read (d : RefSensor) (own a7 : BusAddr) (r v : Byte) (a : Nat)
    (h : a ≠ r.toNat) : Memory.read (d.afterWrite own a7 [r, v]).regs a = Memory.read d.regs a := by
  unfold RefSensor.afterWrite
  split
  · rfl
  · rename_i heq; cases heq; exact Memory.read_write_of_ne _ _ _ _ h
  · rfl

end Sys2Proof.Machine
end

