-- ==== Sys2Proof/Laws/State.lean ====
section
/-! SUPPORT. For each update of the state, what each field holds after it. -/

namespace Sys2Proof.Machine

/-! ## `setPhase` -/

@[simp] theorem setPhase_motion (p : PhaseCode) (s : State) : (setPhase p s).motion = s.motion := rfl
@[simp] theorem setPhase_frame (p : PhaseCode) (s : State) : (setPhase p s).frame = s.frame := rfl
@[simp] theorem setPhase_phase (p : PhaseCode) (s : State) : (setPhase p s).phase = p := rfl
@[simp] theorem setPhase_trigPrev (p : PhaseCode) (s : State) : (setPhase p s).trigPrev = s.trigPrev := rfl
@[simp] theorem setPhase_trigOut (p : PhaseCode) (s : State) : (setPhase p s).trigOut = s.trigOut := rfl
@[simp] theorem setPhase_rdOk (p : PhaseCode) (s : State) : (setPhase p s).rdOk = s.rdOk := rfl
@[simp] theorem setPhase_errFlags (p : PhaseCode) (s : State) : (setPhase p s).errFlags = s.errFlags := rfl
@[simp] theorem setPhase_config (p : PhaseCode) (s : State) : (setPhase p s).config = s.config := rfl
@[simp] theorem setPhase_inputs (p : PhaseCode) (s : State) : (setPhase p s).inputs = s.inputs := rfl
@[simp] theorem setPhase_bench (p : PhaseCode) (s : State) : (setPhase p s).bench = s.bench := rfl
@[simp] theorem setPhase_busLog (p : PhaseCode) (s : State) : (setPhase p s).busLog = s.busLog := rfl
@[simp] theorem setPhase_txStream (p : PhaseCode) (s : State) : (setPhase p s).txStream = s.txStream := rfl
@[simp] theorem setPhase_errLog (p : PhaseCode) (s : State) : (setPhase p s).errLog = s.errLog := rfl
@[simp] theorem setPhase_calls (p : PhaseCode) (s : State) : (setPhase p s).calls = s.calls := rfl

/-! ## `setMotion` -/

@[simp] theorem setMotion_motion (m : Sample) (s : State) : (setMotion m s).motion = m := rfl
@[simp] theorem setMotion_frame (m : Sample) (s : State) : (setMotion m s).frame = s.frame := rfl
@[simp] theorem setMotion_phase (m : Sample) (s : State) : (setMotion m s).phase = s.phase := rfl
@[simp] theorem setMotion_trigPrev (m : Sample) (s : State) : (setMotion m s).trigPrev = s.trigPrev := rfl
@[simp] theorem setMotion_trigOut (m : Sample) (s : State) : (setMotion m s).trigOut = s.trigOut := rfl
@[simp] theorem setMotion_rdOk (m : Sample) (s : State) : (setMotion m s).rdOk = s.rdOk := rfl
@[simp] theorem setMotion_errFlags (m : Sample) (s : State) : (setMotion m s).errFlags = s.errFlags := rfl
@[simp] theorem setMotion_config (m : Sample) (s : State) : (setMotion m s).config = s.config := rfl
@[simp] theorem setMotion_inputs (m : Sample) (s : State) : (setMotion m s).inputs = s.inputs := rfl
@[simp] theorem setMotion_bench (m : Sample) (s : State) : (setMotion m s).bench = s.bench := rfl
@[simp] theorem setMotion_busLog (m : Sample) (s : State) : (setMotion m s).busLog = s.busLog := rfl
@[simp] theorem setMotion_txStream (m : Sample) (s : State) : (setMotion m s).txStream = s.txStream := rfl
@[simp] theorem setMotion_errLog (m : Sample) (s : State) : (setMotion m s).errLog = s.errLog := rfl
@[simp] theorem setMotion_calls (m : Sample) (s : State) : (setMotion m s).calls = s.calls := rfl

/-! ## `setFrame` -/

@[simp] theorem setFrame_motion (f : Frame) (s : State) : (setFrame f s).motion = s.motion := rfl
@[simp] theorem setFrame_frame (f : Frame) (s : State) : (setFrame f s).frame = f := rfl
@[simp] theorem setFrame_phase (f : Frame) (s : State) : (setFrame f s).phase = s.phase := rfl
@[simp] theorem setFrame_trigPrev (f : Frame) (s : State) : (setFrame f s).trigPrev = s.trigPrev := rfl
@[simp] theorem setFrame_trigOut (f : Frame) (s : State) : (setFrame f s).trigOut = s.trigOut := rfl
@[simp] theorem setFrame_rdOk (f : Frame) (s : State) : (setFrame f s).rdOk = s.rdOk := rfl
@[simp] theorem setFrame_errFlags (f : Frame) (s : State) : (setFrame f s).errFlags = s.errFlags := rfl
@[simp] theorem setFrame_config (f : Frame) (s : State) : (setFrame f s).config = s.config := rfl
@[simp] theorem setFrame_inputs (f : Frame) (s : State) : (setFrame f s).inputs = s.inputs := rfl
@[simp] theorem setFrame_bench (f : Frame) (s : State) : (setFrame f s).bench = s.bench := rfl
@[simp] theorem setFrame_busLog (f : Frame) (s : State) : (setFrame f s).busLog = s.busLog := rfl
@[simp] theorem setFrame_txStream (f : Frame) (s : State) : (setFrame f s).txStream = s.txStream := rfl
@[simp] theorem setFrame_errLog (f : Frame) (s : State) : (setFrame f s).errLog = s.errLog := rfl
@[simp] theorem setFrame_calls (f : Frame) (s : State) : (setFrame f s).calls = s.calls := rfl

/-! ## `setTrigger` -/

@[simp] theorem setTrigger_motion (out prev : Bit) (s : State) : (setTrigger out prev s).motion = s.motion := rfl
@[simp] theorem setTrigger_frame (out prev : Bit) (s : State) : (setTrigger out prev s).frame = s.frame := rfl
@[simp] theorem setTrigger_phase (out prev : Bit) (s : State) : (setTrigger out prev s).phase = s.phase := rfl
@[simp] theorem setTrigger_trigPrev (out prev : Bit) (s : State) : (setTrigger out prev s).trigPrev = prev := rfl
@[simp] theorem setTrigger_trigOut (out prev : Bit) (s : State) : (setTrigger out prev s).trigOut = out := rfl
@[simp] theorem setTrigger_rdOk (out prev : Bit) (s : State) : (setTrigger out prev s).rdOk = s.rdOk := rfl
@[simp] theorem setTrigger_errFlags (out prev : Bit) (s : State) : (setTrigger out prev s).errFlags = s.errFlags := rfl
@[simp] theorem setTrigger_config (out prev : Bit) (s : State) : (setTrigger out prev s).config = s.config := rfl
@[simp] theorem setTrigger_inputs (out prev : Bit) (s : State) : (setTrigger out prev s).inputs = s.inputs := rfl
@[simp] theorem setTrigger_bench (out prev : Bit) (s : State) : (setTrigger out prev s).bench = s.bench := rfl
@[simp] theorem setTrigger_busLog (out prev : Bit) (s : State) : (setTrigger out prev s).busLog = s.busLog := rfl
@[simp] theorem setTrigger_txStream (out prev : Bit) (s : State) : (setTrigger out prev s).txStream = s.txStream := rfl
@[simp] theorem setTrigger_errLog (out prev : Bit) (s : State) : (setTrigger out prev s).errLog = s.errLog := rfl
@[simp] theorem setTrigger_calls (out prev : Bit) (s : State) : (setTrigger out prev s).calls = s.calls := rfl

/-! ## `setRdOk` -/

@[simp] theorem setRdOk_motion (b : Bit) (s : State) : (setRdOk b s).motion = s.motion := rfl
@[simp] theorem setRdOk_frame (b : Bit) (s : State) : (setRdOk b s).frame = s.frame := rfl
@[simp] theorem setRdOk_phase (b : Bit) (s : State) : (setRdOk b s).phase = s.phase := rfl
@[simp] theorem setRdOk_trigPrev (b : Bit) (s : State) : (setRdOk b s).trigPrev = s.trigPrev := rfl
@[simp] theorem setRdOk_trigOut (b : Bit) (s : State) : (setRdOk b s).trigOut = s.trigOut := rfl
@[simp] theorem setRdOk_rdOk (b : Bit) (s : State) : (setRdOk b s).rdOk = b := rfl
@[simp] theorem setRdOk_errFlags (b : Bit) (s : State) : (setRdOk b s).errFlags = s.errFlags := rfl
@[simp] theorem setRdOk_config (b : Bit) (s : State) : (setRdOk b s).config = s.config := rfl
@[simp] theorem setRdOk_inputs (b : Bit) (s : State) : (setRdOk b s).inputs = s.inputs := rfl
@[simp] theorem setRdOk_bench (b : Bit) (s : State) : (setRdOk b s).bench = s.bench := rfl
@[simp] theorem setRdOk_busLog (b : Bit) (s : State) : (setRdOk b s).busLog = s.busLog := rfl
@[simp] theorem setRdOk_txStream (b : Bit) (s : State) : (setRdOk b s).txStream = s.txStream := rfl
@[simp] theorem setRdOk_errLog (b : Bit) (s : State) : (setRdOk b s).errLog = s.errLog := rfl
@[simp] theorem setRdOk_calls (b : Bit) (s : State) : (setRdOk b s).calls = s.calls := rfl

/-! ## `raise` -/

@[simp] theorem raise_motion (e : BusError) (s : State) : (raise e s).motion = s.motion := rfl
@[simp] theorem raise_frame (e : BusError) (s : State) : (raise e s).frame = s.frame := rfl
@[simp] theorem raise_phase (e : BusError) (s : State) : (raise e s).phase = s.phase := rfl
@[simp] theorem raise_trigPrev (e : BusError) (s : State) : (raise e s).trigPrev = s.trigPrev := rfl
@[simp] theorem raise_trigOut (e : BusError) (s : State) : (raise e s).trigOut = s.trigOut := rfl
@[simp] theorem raise_rdOk (e : BusError) (s : State) : (raise e s).rdOk = s.rdOk := rfl
@[simp] theorem raise_errFlags (e : BusError) (s : State) : (raise e s).errFlags = setErrFlag s.errFlags e := rfl
@[simp] theorem raise_config (e : BusError) (s : State) : (raise e s).config = s.config := rfl
@[simp] theorem raise_inputs (e : BusError) (s : State) : (raise e s).inputs = s.inputs := rfl
@[simp] theorem raise_bench (e : BusError) (s : State) : (raise e s).bench = s.bench := rfl
@[simp] theorem raise_busLog (e : BusError) (s : State) : (raise e s).busLog = s.busLog := rfl
@[simp] theorem raise_txStream (e : BusError) (s : State) : (raise e s).txStream = s.txStream := rfl
@[simp] theorem raise_errLog (e : BusError) (s : State) : (raise e s).errLog = s.errLog ++ [e] := rfl
@[simp] theorem raise_calls (e : BusError) (s : State) : (raise e s).calls = s.calls := rfl

/-! ## `busInit` -/

@[simp] theorem busInit_motion (s : State) : (busInit s).motion = s.motion := rfl
@[simp] theorem busInit_frame (s : State) : (busInit s).frame = s.frame := rfl
@[simp] theorem busInit_phase (s : State) : (busInit s).phase = s.phase := rfl
@[simp] theorem busInit_trigPrev (s : State) : (busInit s).trigPrev = s.trigPrev := rfl
@[simp] theorem busInit_trigOut (s : State) : (busInit s).trigOut = s.trigOut := rfl
@[simp] theorem busInit_rdOk (s : State) : (busInit s).rdOk = s.rdOk := rfl
@[simp] theorem busInit_errFlags (s : State) : (busInit s).errFlags = s.errFlags := rfl
@[simp] theorem busInit_config (s : State) : (busInit s).config = s.config := rfl
@[simp] theorem busInit_inputs (s : State) :
    (busInit s).inputs = { s.inputs with busInit := s.inputs.busInit.next } := rfl
@[simp] theorem busInit_bench (s : State) : (busInit s).bench = s.bench := rfl
@[simp] theorem busInit_busLog (s : State) : (busInit s).busLog = s.busLog ++ [.init (busInitAnswer s)] := rfl
@[simp] theorem busInit_txStream (s : State) : (busInit s).txStream = s.txStream := rfl
@[simp] theorem busInit_errLog (s : State) : (busInit s).errLog = s.errLog := rfl
@[simp] theorem busInit_calls (s : State) : (busInit s).calls = s.calls ++ [.busInit (busInitAnswer s)] := rfl

/-! ## `busWrite` -/

@[simp] theorem busWrite_motion (bytes : List Byte) (s : State) : (busWrite bytes s).motion = s.motion := rfl
@[simp] theorem busWrite_frame (bytes : List Byte) (s : State) : (busWrite bytes s).frame = s.frame := rfl
@[simp] theorem busWrite_phase (bytes : List Byte) (s : State) : (busWrite bytes s).phase = s.phase := rfl
@[simp] theorem busWrite_trigPrev (bytes : List Byte) (s : State) : (busWrite bytes s).trigPrev = s.trigPrev := rfl
@[simp] theorem busWrite_trigOut (bytes : List Byte) (s : State) : (busWrite bytes s).trigOut = s.trigOut := rfl
@[simp] theorem busWrite_rdOk (bytes : List Byte) (s : State) : (busWrite bytes s).rdOk = s.rdOk := rfl
@[simp] theorem busWrite_errFlags (bytes : List Byte) (s : State) : (busWrite bytes s).errFlags = s.errFlags := rfl
@[simp] theorem busWrite_config (bytes : List Byte) (s : State) : (busWrite bytes s).config = s.config := rfl
@[simp] theorem busWrite_inputs (bytes : List Byte) (s : State) : (busWrite bytes s).inputs = inputsAfterWrite s := rfl
@[simp] theorem busWrite_bench (bytes : List Byte) (s : State) : (busWrite bytes s).bench = benchAfterWrite bytes s := rfl
@[simp] theorem busWrite_busLog (bytes : List Byte) (s : State) :
    (busWrite bytes s).busLog = s.busLog ++ [.write s.config.devAddr bytes (busWriteAnswer bytes s)] := rfl
@[simp] theorem busWrite_txStream (bytes : List Byte) (s : State) : (busWrite bytes s).txStream = s.txStream := rfl
@[simp] theorem busWrite_errLog (bytes : List Byte) (s : State) : (busWrite bytes s).errLog = s.errLog := rfl
@[simp] theorem busWrite_calls (bytes : List Byte) (s : State) :
    (busWrite bytes s).calls = s.calls ++ [.busWrite s.config.devAddr bytes s.config.busTimeoutMs (busWriteAnswer bytes s)] := rfl

/-! ## `busRead` -/

@[simp] theorem busRead_motion (s : State) : (busRead s).motion = s.motion := rfl
@[simp] theorem busRead_frame (s : State) : (busRead s).frame = s.frame := rfl
@[simp] theorem busRead_phase (s : State) : (busRead s).phase = s.phase := rfl
@[simp] theorem busRead_trigPrev (s : State) : (busRead s).trigPrev = s.trigPrev := rfl
@[simp] theorem busRead_trigOut (s : State) : (busRead s).trigOut = s.trigOut := rfl
@[simp] theorem busRead_rdOk (s : State) : (busRead s).rdOk = s.rdOk := rfl
@[simp] theorem busRead_errFlags (s : State) : (busRead s).errFlags = s.errFlags := rfl
@[simp] theorem busRead_config (s : State) : (busRead s).config = s.config := rfl
@[simp] theorem busRead_inputs (s : State) : (busRead s).inputs = inputsAfterRead s := rfl
@[simp] theorem busRead_bench (s : State) : (busRead s).bench = benchAfterRead s := rfl
@[simp] theorem busRead_busLog (s : State) :
    (busRead s).busLog = s.busLog ++ [.read s.config.devAddr burstLength (busReadAnswer s)] := rfl
@[simp] theorem busRead_txStream (s : State) : (busRead s).txStream = s.txStream := rfl
@[simp] theorem busRead_errLog (s : State) : (busRead s).errLog = s.errLog := rfl
@[simp] theorem busRead_calls (s : State) :
    (busRead s).calls = s.calls ++ [.busRead s.config.devAddr burstLength s.config.busTimeoutMs (busReadAnswer s)] := rfl

/-! ## `buttonLevel` -/

@[simp] theorem buttonLevel_motion (s : State) : (buttonLevel s).motion = s.motion := rfl
@[simp] theorem buttonLevel_frame (s : State) : (buttonLevel s).frame = s.frame := rfl
@[simp] theorem buttonLevel_phase (s : State) : (buttonLevel s).phase = s.phase := rfl
@[simp] theorem buttonLevel_trigPrev (s : State) : (buttonLevel s).trigPrev = s.trigPrev := rfl
@[simp] theorem buttonLevel_trigOut (s : State) : (buttonLevel s).trigOut = s.trigOut := rfl
@[simp] theorem buttonLevel_rdOk (s : State) : (buttonLevel s).rdOk = s.rdOk := rfl
@[simp] theorem buttonLevel_errFlags (s : State) : (buttonLevel s).errFlags = s.errFlags := rfl
@[simp] theorem buttonLevel_config (s : State) : (buttonLevel s).config = s.config := rfl
@[simp] theorem buttonLevel_inputs (s : State) :
    (buttonLevel s).inputs = { s.inputs with button := s.inputs.button.next } := rfl
@[simp] theorem buttonLevel_bench (s : State) : (buttonLevel s).bench = s.bench := rfl
@[simp] theorem buttonLevel_busLog (s : State) : (buttonLevel s).busLog = s.busLog := rfl
@[simp] theorem buttonLevel_txStream (s : State) : (buttonLevel s).txStream = s.txStream := rfl
@[simp] theorem buttonLevel_errLog (s : State) : (buttonLevel s).errLog = s.errLog := rfl
@[simp] theorem buttonLevel_calls (s : State) :
    (buttonLevel s).calls = s.calls ++ [.buttonLevel (buttonAnswer s)] := rfl

/-! ## `streamWrite` -/

@[simp] theorem streamWrite_motion (bytes : List Byte) (s : State) : (streamWrite bytes s).motion = s.motion := rfl
@[simp] theorem streamWrite_frame (bytes : List Byte) (s : State) : (streamWrite bytes s).frame = s.frame := rfl
@[simp] theorem streamWrite_phase (bytes : List Byte) (s : State) : (streamWrite bytes s).phase = s.phase := rfl
@[simp] theorem streamWrite_trigPrev (bytes : List Byte) (s : State) : (streamWrite bytes s).trigPrev = s.trigPrev := rfl
@[simp] theorem streamWrite_trigOut (bytes : List Byte) (s : State) : (streamWrite bytes s).trigOut = s.trigOut := rfl
@[simp] theorem streamWrite_rdOk (bytes : List Byte) (s : State) : (streamWrite bytes s).rdOk = s.rdOk := rfl
@[simp] theorem streamWrite_errFlags (bytes : List Byte) (s : State) : (streamWrite bytes s).errFlags = s.errFlags := rfl
@[simp] theorem streamWrite_config (bytes : List Byte) (s : State) : (streamWrite bytes s).config = s.config := rfl
@[simp] theorem streamWrite_inputs (bytes : List Byte) (s : State) :
    (streamWrite bytes s).inputs = { s.inputs with stream := s.inputs.stream.next } := rfl
@[simp] theorem streamWrite_bench (bytes : List Byte) (s : State) : (streamWrite bytes s).bench = s.bench := rfl
@[simp] theorem streamWrite_busLog (bytes : List Byte) (s : State) : (streamWrite bytes s).busLog = s.busLog := rfl
@[simp] theorem streamWrite_txStream (bytes : List Byte) (s : State) :
    (streamWrite bytes s).txStream = s.txStream ++ delivered bytes (streamAnswer s) := rfl
@[simp] theorem streamWrite_errLog (bytes : List Byte) (s : State) : (streamWrite bytes s).errLog = s.errLog := rfl
@[simp] theorem streamWrite_calls (bytes : List Byte) (s : State) :
    (streamWrite bytes s).calls = s.calls ++ [.streamWrite bytes (streamAnswer s)] := rfl

/-! ## `delay` -/

@[simp] theorem delay_motion (ms : Nat) (s : State) : (delay ms s).motion = s.motion := rfl
@[simp] theorem delay_frame (ms : Nat) (s : State) : (delay ms s).frame = s.frame := rfl
@[simp] theorem delay_phase (ms : Nat) (s : State) : (delay ms s).phase = s.phase := rfl
@[simp] theorem delay_trigPrev (ms : Nat) (s : State) : (delay ms s).trigPrev = s.trigPrev := rfl
@[simp] theorem delay_trigOut (ms : Nat) (s : State) : (delay ms s).trigOut = s.trigOut := rfl
@[simp] theorem delay_rdOk (ms : Nat) (s : State) : (delay ms s).rdOk = s.rdOk := rfl
@[simp] theorem delay_errFlags (ms : Nat) (s : State) : (delay ms s).errFlags = s.errFlags := rfl
@[simp] theorem delay_config (ms : Nat) (s : State) : (delay ms s).config = s.config := rfl
@[simp] theorem delay_inputs (ms : Nat) (s : State) : (delay ms s).inputs = s.inputs := rfl
@[simp] theorem delay_bench (ms : Nat) (s : State) : (delay ms s).bench = s.bench := rfl
@[simp] theorem delay_busLog (ms : Nat) (s : State) : (delay ms s).busLog = s.busLog := rfl
@[simp] theorem delay_txStream (ms : Nat) (s : State) : (delay ms s).txStream = s.txStream := rfl
@[simp] theorem delay_errLog (ms : Nat) (s : State) : (delay ms s).errLog = s.errLog := rfl
@[simp] theorem delay_calls (ms : Nat) (s : State) : (delay ms s).calls = s.calls ++ [.delay ms] := rfl

end Sys2Proof.Machine
end

