-- ==== Sys2Proof/Laws/Ops.lean ====
section
/-! SUPPORT. What each shared operation and each meaning can do, said once; the later proofs cite these and do not
unfold the operations. -/

namespace Sys2Proof.Machine

/-! ## Decoding -/

theorem decode_encode (i : Instr) : decode (encode i) = .instr i := by
  cases i <;> rfl

theorem encode_of_decode (c : PhaseCode) (i : Instr) (h : decode c = .instr i) : encode i = c := by
  revert h; revert c; cases i <;> decide

theorem decode_legal (c : PhaseCode) (h : c.toNat ≤ 8) : ∃ i, decode c = .instr i := by
  revert h; revert c
  have h : ∀ c : PhaseCode, c.toNat ≤ 8 → decode c ≠ .reservedCode c := by decide
  intro c hc
  cases hd : decode c with
  | instr i => exact ⟨i, rfl⟩
  | reservedCode k =>
    have hk : ∀ c k : PhaseCode, decode c = .reservedCode k → k = c := by decide
    exact absurd (hd.trans (by rw [hk c k hd])) (h c hc)

theorem decode_reserved (c : PhaseCode) (h : 9 ≤ c.toNat) : decode c = .reservedCode c := by
  revert h; revert c; decide

/-! ## Recording a failure -/

theorem raiseOnFail_cases (r : BusResult) (e : BusError) (s : State) :
    (r = .ok ∧ raiseOnFail r e s = s) ∨ (r = .fail ∧ raiseOnFail r e s = raise e s) := by
  cases r
  · exact .inl ⟨rfl, rfl⟩
  · exact .inr ⟨rfl, rfl⟩

@[simp] theorem raiseOnFail_ok (e : BusError) (s : State) : raiseOnFail .ok e s = s := rfl

@[simp] theorem raiseOnFail_fail (e : BusError) (s : State) : raiseOnFail .fail e s = raise e s := rfl

/-- The failure policy writes the motion registers and uses up draws; nothing else. -/
theorem failMotion_eq (s : State) :
    failMotion s = { s with motion := (failMotion s).motion, inputs := (failMotion s).inputs } := by
  unfold failMotion; split <;> rfl

section
variable (s : State)
@[simp] theorem failMotion_frame : (failMotion s).frame = s.frame := by rw [failMotion_eq]
@[simp] theorem failMotion_phase : (failMotion s).phase = s.phase := by rw [failMotion_eq]
@[simp] theorem failMotion_trigPrev : (failMotion s).trigPrev = s.trigPrev := by rw [failMotion_eq]
@[simp] theorem failMotion_trigOut : (failMotion s).trigOut = s.trigOut := by rw [failMotion_eq]
@[simp] theorem failMotion_rdOk : (failMotion s).rdOk = s.rdOk := by rw [failMotion_eq]
@[simp] theorem failMotion_errFlags : (failMotion s).errFlags = s.errFlags := by rw [failMotion_eq]
@[simp] theorem failMotion_config : (failMotion s).config = s.config := by rw [failMotion_eq]
@[simp] theorem failMotion_bench : (failMotion s).bench = s.bench := by rw [failMotion_eq]
@[simp] theorem failMotion_busLog : (failMotion s).busLog = s.busLog := by rw [failMotion_eq]
@[simp] theorem failMotion_txStream : (failMotion s).txStream = s.txStream := by rw [failMotion_eq]
@[simp] theorem failMotion_errLog : (failMotion s).errLog = s.errLog := by rw [failMotion_eq]
@[simp] theorem failMotion_calls : (failMotion s).calls = s.calls := by rw [failMotion_eq]
@[simp] theorem failMotion_button : (failMotion s).inputs.button = s.inputs.button := by
  unfold failMotion; split <;> rfl
@[simp] theorem failMotion_stream : (failMotion s).inputs.stream = s.inputs.stream := by
  unfold failMotion; split <;> rfl
@[simp] theorem failMotion_busInit : (failMotion s).inputs.busInit = s.inputs.busInit := by
  unfold failMotion; split <;> rfl
@[simp] theorem failMotion_busWrite : (failMotion s).inputs.busWrite = s.inputs.busWrite := by
  unfold failMotion; split <;> rfl
@[simp] theorem failMotion_busRead : (failMotion s).inputs.busRead = s.inputs.busRead := by
  unfold failMotion; split <;> rfl
@[simp] theorem inputsAfterWrite_busInit : (inputsAfterWrite s).busInit = s.inputs.busInit := by
  unfold inputsAfterWrite; split <;> rfl
@[simp] theorem inputsAfterWrite_button : (inputsAfterWrite s).button = s.inputs.button := by
  unfold inputsAfterWrite; split <;> rfl
@[simp] theorem inputsAfterWrite_stream : (inputsAfterWrite s).stream = s.inputs.stream := by
  unfold inputsAfterWrite; split <;> rfl
@[simp] theorem inputsAfterWrite_busRead : (inputsAfterWrite s).busRead = s.inputs.busRead := by
  unfold inputsAfterWrite; split <;> rfl
@[simp] theorem inputsAfterWrite_fill : (inputsAfterWrite s).fill = s.inputs.fill := by
  unfold inputsAfterWrite; split <;> rfl
@[simp] theorem inputsAfterRead_busInit : (inputsAfterRead s).busInit = s.inputs.busInit := by
  unfold inputsAfterRead; split <;> rfl
@[simp] theorem inputsAfterRead_button : (inputsAfterRead s).button = s.inputs.button := by
  unfold inputsAfterRead; split <;> rfl
@[simp] theorem inputsAfterRead_stream : (inputsAfterRead s).stream = s.inputs.stream := by
  unfold inputsAfterRead; split <;> rfl
@[simp] theorem inputsAfterRead_busWrite : (inputsAfterRead s).busWrite = s.inputs.busWrite := by
  unfold inputsAfterRead; split <;> rfl
@[simp] theorem inputsAfterRead_fill : (inputsAfterRead s).fill = s.inputs.fill := by
  unfold inputsAfterRead; split <;> rfl
end

theorem afterSelect_cases (r : BusResult) (s : State) :
    (r = .ok ∧ afterSelect r s = setPhase Phase.brd s) ∨
    (r = .fail ∧ afterSelect r s = setPhase Phase.poll (failRead .rsel s)) := by
  cases r
  · exact .inl ⟨rfl, rfl⟩
  · exact .inr ⟨rfl, rfl⟩

theorem commitRead_cases (r : ReadResult) (s : State) :
    (∃ b, r = .ok b ∧ commitRead r s = setRdOk 1#1 (setMotion b s)) ∨
    (r = .fail ∧ commitRead r s = failRead .brd s) := by
  cases r with
  | ok b => exact .inl ⟨b, rfl, rfl⟩
  | fail => exact .inr ⟨rfl, rfl⟩

section
variable (site : Site) (s : State)
@[simp] theorem failRead_motion :
    (failRead site s).motion = (failMotion (setRdOk 0#1 (raise (.busTransferError site) s))).motion := rfl
@[simp] theorem failRead_frame : (failRead site s).frame = s.frame := by simp [failRead]
@[simp] theorem failRead_phase : (failRead site s).phase = s.phase := by simp [failRead]
@[simp] theorem failRead_trigPrev : (failRead site s).trigPrev = s.trigPrev := by simp [failRead]
@[simp] theorem failRead_trigOut : (failRead site s).trigOut = s.trigOut := by simp [failRead]
@[simp] theorem failRead_rdOk : (failRead site s).rdOk = 0#1 := by simp [failRead]
@[simp] theorem failRead_errFlags :
    (failRead site s).errFlags = setErrFlag s.errFlags (.busTransferError site) := by simp [failRead]
@[simp] theorem failRead_config : (failRead site s).config = s.config := by simp [failRead]
@[simp] theorem failRead_button : (failRead site s).inputs.button = s.inputs.button := by simp [failRead]
@[simp] theorem failRead_busInit : (failRead site s).inputs.busInit = s.inputs.busInit := by simp [failRead]
@[simp] theorem failRead_busWrite : (failRead site s).inputs.busWrite = s.inputs.busWrite := by simp [failRead]
@[simp] theorem failRead_busRead : (failRead site s).inputs.busRead = s.inputs.busRead := by simp [failRead]
@[simp] theorem failRead_stream : (failRead site s).inputs.stream = s.inputs.stream := by simp [failRead]
@[simp] theorem failRead_bench : (failRead site s).bench = s.bench := by simp [failRead]
@[simp] theorem failRead_busLog : (failRead site s).busLog = s.busLog := by simp [failRead]
@[simp] theorem failRead_txStream : (failRead site s).txStream = s.txStream := by simp [failRead]
@[simp] theorem failRead_errLog :
    (failRead site s).errLog = s.errLog ++ [.busTransferError site] := by simp [failRead]
@[simp] theorem failRead_calls : (failRead site s).calls = s.calls := by simp [failRead]
end

/-! ## The stream and the frame -/

@[simp] theorem delivered_accept (bytes : List Byte) : delivered bytes .accept = bytes := rfl

@[simp] theorem delivered_drop (bytes : List Byte) : delivered bytes .drop = [] := rfl

theorem esc_ne_header (header v : Byte) : esc header v ≠ header := by
  unfold esc
  split
  · subst_vars; intro h; have := congrArg BitVec.toNat h; simp [BitVec.toNat_add] at this; omega
  · assumption

theorem zext8_cases (b : Bit) : zext8 b = 0x00#8 ∨ zext8 b = 0x01#8 := by
  revert b; decide

/-! ## What exec answers -/

theorem exec_binit (s : State) : exec .binit s =
    .next (setPhase Phase.cfgw (raiseOnFail (busInitAnswer s) .busConfigError (busInit s))) := rfl

theorem exec_cfgw (s : State) : exec .cfgw s =
    .next (setPhase (cycleStart s.config)
      (raiseOnFail (busWriteAnswer (cfgBytes s.config) s) (.busTransferError .cfgw)
        (busWrite (cfgBytes s.config) s))) := rfl

theorem exec_txh (s : State) : exec .txh s =
    .next (setPhase Phase.rsel (streamWrite (headerBytes s.config) s)) := rfl

theorem exec_rsel (s : State) : exec .rsel s =
    .next (afterSelect (busWriteAnswer (selectBytes s.config) s) (busWrite (selectBytes s.config) s)) := rfl

theorem exec_brd (s : State) : exec .brd s =
    .next (setPhase Phase.poll (commitRead (busReadAnswer s) (busRead s))) := rfl

theorem exec_poll (s : State) : exec .poll s =
    .next (setPhase Phase.enc (setTrigger (pressEdge (pressedOf (buttonAnswer s)) s.trigPrev)
      (pressedOf (buttonAnswer s)) (buttonLevel s))) := rfl

theorem exec_enc (s : State) : exec .enc s =
    .next (setPhase Phase.txf (setFrame (buildFrame s.config.header s.motion s.trigOut) s)) := rfl

theorem exec_txf (s : State) : exec .txf s =
    .next (setPhase Phase.wait (streamWrite (frameBytes s.config s.frame) s)) := rfl

theorem exec_wait (s : State) : exec .wait s =
    .next (setPhase (cycleStart s.config) (delay s.config.periodMs s)) := rfl

/-- Every operation answers a next state. -/
theorem exec_next (i : Instr) (s : State) : ∃ t, exec i s = .next t := by
  cases i <;> exact ⟨_, rfl⟩

/-- The next states of an operation, one case for each outcome of its primitive. -/
inductive Effect (s : State) : Instr → State → Prop where
  | binitOk (h : busInitAnswer s = .ok) : Effect s .binit (setPhase Phase.cfgw (busInit s))
  | binitFail (h : busInitAnswer s = .fail) :
    Effect s .binit (setPhase Phase.cfgw (raise .busConfigError (busInit s)))
  | cfgwOk (h : busWriteAnswer (cfgBytes s.config) s = .ok) :
    Effect s .cfgw (setPhase (cycleStart s.config) (busWrite (cfgBytes s.config) s))
  | cfgwFail (h : busWriteAnswer (cfgBytes s.config) s = .fail) :
    Effect s .cfgw
      (setPhase (cycleStart s.config) (raise (.busTransferError .cfgw) (busWrite (cfgBytes s.config) s)))
  | txh : Effect s .txh (setPhase Phase.rsel (streamWrite (headerBytes s.config) s))
  | rselOk (h : busWriteAnswer (selectBytes s.config) s = .ok) :
    Effect s .rsel (setPhase Phase.brd (busWrite (selectBytes s.config) s))
  | rselFail (h : busWriteAnswer (selectBytes s.config) s = .fail) :
    Effect s .rsel (setPhase Phase.poll (failRead .rsel (busWrite (selectBytes s.config) s)))
  | brdOk (b : Sample) (h : busReadAnswer s = .ok b) :
    Effect s .brd (setPhase Phase.poll (setRdOk 1#1 (setMotion b (busRead s))))
  | brdFail (h : busReadAnswer s = .fail) :
    Effect s .brd (setPhase Phase.poll (failRead .brd (busRead s)))
  | poll : Effect s .poll (setPhase Phase.enc (setTrigger (pressEdge (pressedOf (buttonAnswer s)) s.trigPrev)
      (pressedOf (buttonAnswer s)) (buttonLevel s)))
  | enc : Effect s .enc (setPhase Phase.txf (setFrame (buildFrame s.config.header s.motion s.trigOut) s))
  | txf : Effect s .txf (setPhase Phase.wait (streamWrite (frameBytes s.config s.frame) s))
  | wait : Effect s .wait (setPhase (cycleStart s.config) (delay s.config.periodMs s))

/-- The inversion of `exec`: what an operation that goes on can have done. -/
theorem exec_effect {i : Instr} {s t : State} (h : exec i s = .next t) : Effect s i t := by
  cases i with
  | binit =>
    rw [exec_binit] at h; cases h
    cases hr : busInitAnswer s
    · exact .binitOk hr
    · exact .binitFail hr
  | cfgw =>
    rw [exec_cfgw] at h; cases h
    cases hr : busWriteAnswer (cfgBytes s.config) s
    · exact .cfgwOk hr
    · exact .cfgwFail hr
  | txh => rw [exec_txh] at h; cases h; exact .txh
  | rsel =>
    rw [exec_rsel] at h; cases h
    cases hr : busWriteAnswer (selectBytes s.config) s
    · exact .rselOk hr
    · exact .rselFail hr
  | brd =>
    rw [exec_brd] at h; cases h
    cases hr : busReadAnswer s with
    | ok b => exact .brdOk b hr
    | fail => exact .brdFail hr
  | poll => rw [exec_poll] at h; cases h; exact .poll
  | enc => rw [exec_enc] at h; cases h; exact .enc
  | txf => rw [exec_txf] at h; cases h; exact .txf
  | wait => rw [exec_wait] at h; cases h; exact .wait

/-! ## The step -/

/-- A step that goes on is the effect of the operation `PHASE` selects. -/
theorem step_cases (s t : State) (h : step s = .next t) :
    ∃ i, s.phase = encode i ∧ exec i s = .next t := by
  unfold step at h
  split at h
  · rename_i i hd; exact ⟨i, (encode_of_decode _ _ hd).symm, h⟩
  · cases h

/-- The inversion of `step`. -/
theorem step_effect {s t : State} (h : step s = .next t) : ∃ i, s.phase = encode i ∧ Effect s i t :=
  (step_cases s t h).imp fun _ ⟨hp, he⟩ => ⟨hp, exec_effect he⟩

theorem step_of_phase (s : State) (i : Instr) (h : s.phase = encode i) : step s = exec i s := by
  unfold step; rw [h, decode_encode]

/-! ## Sequences -/

@[simp] theorem andThen_next (s : State) (f : State → Host.Outcome State Fault Refusal) :
    andThen (.next s) f = f s := rfl

@[simp] theorem runSteps_zero (s : State) : runSteps 0 s = .next s := rfl

theorem runSteps_succ (k : Nat) (s : State) : runSteps (k + 1) s = andThen (step s) (runSteps k) := rfl

/-- One more step of a run whose first operation is known. -/
theorem runSteps_of_phase (k : Nat) (s t : State) (i : Instr) (h : s.phase = encode i)
    (ht : exec i s = .next t) : runSteps (k + 1) s = runSteps k t := by
  rw [runSteps_succ, step_of_phase s i h, ht, andThen_next]

theorem readMotion_of_ok (s : State) (h : busWriteAnswer (selectBytes s.config) s = .ok) :
    readMotion s = exec .brd (setPhase Phase.brd (busWrite (selectBytes s.config) s)) := by
  rw [readMotion, exec_rsel, h]; rfl

theorem readMotion_of_fail (s : State) (h : busWriteAnswer (selectBytes s.config) s = .fail) :
    readMotion s = .next (setPhase Phase.poll (failRead .rsel (busWrite (selectBytes s.config) s))) := by
  rw [readMotion, exec_rsel, h]; simp [afterSelect]

/-! ## The terms of claims -/

/-- The shape of a log that grew by one event. -/
theorem logStage_snoc (c : Config) (log : List BusEvent) (e : BusEvent) :
    logStage c (log ++ [e]) = (logStage c log).bind (fun g => g.after c e) := by
  simp [logStage, List.foldl_append]

/-- A frame built by `ENC` satisfies the frame invariant. -/
theorem buildFrame_built (header : Byte) (m : Sample) (trig : Bit) :
    FrameBuilt header (buildFrame header m trig) :=
  ⟨rfl, ⟨esc_ne_header _ _, esc_ne_header _ _, esc_ne_header _ _, esc_ne_header _ _, esc_ne_header _ _,
    esc_ne_header _ _⟩, zext8_cases trig⟩

end Sys2Proof.Machine
end

