-- ==== Sys2Proof/Laws/PerInstr.lean ====
section
/-! SUPPORT. Statements for all operations, one lemma per constructor: the code of an operation is one of the nine
and decodes to it. -/

namespace Sys2Proof.Laws.CodeOfOperation

/-- The operation's code is legal and selects the operation (30_encoding.md R80). -/
def Statement (i : Instr) : Prop :=
  (encode i).toNat ≤ 8 ∧ decode (encode i) = .instr i

theorem binit : Statement .binit := ⟨by decide, rfl⟩
theorem cfgw : Statement .cfgw := ⟨by decide, rfl⟩
theorem txh : Statement .txh := ⟨by decide, rfl⟩
theorem rsel : Statement .rsel := ⟨by decide, rfl⟩
theorem brd : Statement .brd := ⟨by decide, rfl⟩
theorem poll : Statement .poll := ⟨by decide, rfl⟩
theorem enc : Statement .enc := ⟨by decide, rfl⟩
theorem txf : Statement .txf := ⟨by decide, rfl⟩
theorem wait : Statement .wait := ⟨by decide, rfl⟩

end Sys2Proof.Laws.CodeOfOperation
end

