-- ==== Sys2Proof/Tests/Slice0.lean ====
section
/-! SUPPORT. The model's own tests. Expected results are the worked vectors of 95_test_vectors.md (named VB, VE, VP, VT,
VL, VR there) or the encodings of 30_encoding.md, never the model's own answers; and for every statement with hypotheses a
state that meets them. -/

namespace Sys2Proof.Machine.Tests

/-! ## Small states -/

/-- A build with the illustration values of 95_test_vectors.md. -/
def cfg (header : Byte) (split : Bool) (policy : FailPolicy) : Config where
  header := header
  headerSplit := split
  devAddr := 0x68#7
  regFirst := 0x3B#8
  cfg0 := 0x6B#8
  cfg1 := 0x00#8
  busTimeoutMs := 1000
  periodMs := 16
  baud := 9600
  failPolicy := policy
  txTimeoutMs := 5

/-- The sample `[01,02,03,04,05,06]` of VB7 to VB15. -/
def held : Sample := ⟨0x01#8, 0x02#8, 0x03#8, 0x04#8, 0x05#8, 0x06#8⟩

/-- The sample of the document's end-to-end case (S7). -/
def s7 : Sample := ⟨0xAA#8, 0x01#8, 0x02#8, 0xAA#8, 0x03#8, 0x04#8⟩

/-- The frame of the document's end-to-end case (S7). -/
def s7Frame : Frame := ⟨0xAA#8, 0xAB#8, 0x01#8, 0x02#8, 0xAB#8, 0x03#8, 0x04#8, 0x01#8⟩

/-- The reset state of a build with `PHASE` at the code given. -/
def at' (c : Config) (p : PhaseCode) : State := { State.resetWith c with phase := p }

/-- The canonical build at a code, with the sample `held` and `RD_OK` 1. -/
def canon (p : PhaseCode) (policy : FailPolicy) : State :=
  { at' (cfg 0xAA#8 false policy) p with motion := held, rdOk := 1#1 }

def withInit (r : BusResult) (s : State) : State := { s with inputs := { s.inputs with busInit := ⟨[r], 0⟩ } }
def withWrite (r : BusResult) (s : State) : State := { s with inputs := { s.inputs with busWrite := ⟨[r], 0⟩ } }
def withRead (r : ReadResult) (s : State) : State := { s with inputs := { s.inputs with busRead := ⟨[r], 0⟩ } }
def withButton (r : Bit) (s : State) : State := { s with inputs := { s.inputs with button := ⟨[r], 0⟩ } }
def withStream (rs : List StreamResult) (s : State) : State := { s with inputs := { s.inputs with stream := ⟨rs, 0⟩ } }
def withFill (m : Sample) (s : State) : State := { s with inputs := { s.inputs with fill := ⟨[m], 0⟩ } }

/-- A present reference sensor whose registers 0x3B to 0x40 hold `[12,34,56,78,9A,00]`. -/
def sensor : RefSensor where
  regs := [(0x3B, 0x12#8), (0x3C, 0x34#8), (0x3D, 0x56#8), (0x3E, 0x78#8), (0x3F, 0x9A#8)]
  ptr := 0x00#8
  present := true

/-- What an item of the state holds after an outcome; none if it is no next state. -/
def after {α : Type} (o : Host.Outcome State Fault Refusal) (f : State → α) : Option α :=
  match o with
  | .next t => some (f t)
  | _ => none

/-! ## Decoding: words written out from 30_encoding.md R80 -/

theorem test_decode_bus_sequencer : decode 0b0000#4 = .instr .binit ∧ decode 0b0001#4 = .instr .cfgw ∧
    decode 0b0011#4 = .instr .rsel ∧ decode 0b0100#4 = .instr .brd := by decide
theorem test_decode_framer : decode 0b0010#4 = .instr .txh ∧ decode 0b0111#4 = .instr .txf := by decide
theorem test_decode_edge_detector : decode 0b0101#4 = .instr .poll := by decide
theorem test_decode_encoder : decode 0b0110#4 = .instr .enc := by decide
theorem test_decode_loop : decode 0b1000#4 = .instr .wait := by decide
theorem test_decode_reserved : decode 0x9#4 = .reservedCode 0x9#4 ∧ decode 0xF#4 = .reservedCode 0xF#4 := by decide
theorem test_table_words : decodeTableWord 4 0x6 = some .enc ∧ decodeTableWord 8 0x6 = some .enc ∧
    decodeTableWord 4 0xC = none := by decide
theorem test_listing_rsel : Instr.listingLine .rsel = "0x3: RSEL ; -> BRD if ok else POLL" := by decide

/-! ## Well-formedness: one ill-formed record for each check -/

theorem test_wf_good : (cfg 0x00#8 true .draw).wf = true := by decide
theorem test_wf_zero_timeout : Config.wf { cfg 0xAA#8 false .hold with busTimeoutMs := 0 } = false := by decide
theorem test_wf_zero_period : Config.wf { cfg 0xAA#8 false .hold with periodMs := 0 } = false := by decide
theorem test_wf_zero_baud : Config.wf { cfg 0xAA#8 false .hold with baud := 0 } = false := by decide
theorem test_wf_memory_order : Memory.wf [(0x40, 0x01#8), (0x3B, 0x02#8)] = false := by decide
theorem test_wf_memory_default : Memory.wf [(0x3B, 0x00#8)] = false := by decide
theorem test_wf_memory_range : Memory.wf [(0x100, 0x01#8)] = false := by decide
theorem test_wf_memory_good : Memory.wf sensor.regs = true := by decide

/-! ## One step of each operation, from the vectors of 95_test_vectors.md -/

/-- VB2. -/
theorem test_binit_fail : after (exec .binit (withInit .fail (at' (cfg 0xAA#8 false .hold) 0x0#4)))
    (fun t => (t.phase, t.errFlags, t.busLog, t.errLog)) =
      some (0x1#4, 0b0001#4, [.init .fail], [.busConfigError]) := by decide
/-- VB4. -/
theorem test_cfgw_split_ok : after (exec .cfgw (withWrite .ok (at' (cfg 0xAA#8 true .hold) 0x1#4)))
    (fun t => (t.phase, t.errFlags, t.busLog)) =
      some (0x2#4, 0b0000#4, [.write 0x68#7 [0x6B#8, 0x00#8] .ok]) := by decide
/-- VB5. -/
theorem test_cfgw_fail : after (exec .cfgw (withWrite .fail (at' (cfg 0xAA#8 false .hold) 0x1#4)))
    (fun t => (t.phase, t.errFlags, t.errLog)) = some (0x3#4, 0b0010#4, [.busTransferError .cfgw]) := by decide
/-- VB7. -/
theorem test_rsel_ok : after (exec .rsel (withWrite .ok (canon 0x3#4 .hold)))
    (fun t => (t.phase, t.rdOk, t.motion, t.busLog)) =
      some (0x4#4, 1#1, held, [.write 0x68#7 [0x3B#8] .ok]) := by decide
/-- VB10. -/
theorem test_rsel_fail_draw : after (exec .rsel (withFill ⟨0xAA#8, 0xAA#8, 0x00#8, 0xFF#8, 0xAB#8, 0x01#8⟩
    (withWrite .fail (canon 0x3#4 .draw)))) (fun t => (t.phase, t.rdOk, t.motion, t.errFlags)) =
      some (0x5#4, 0#1, ⟨0xAA#8, 0xAA#8, 0x00#8, 0xFF#8, 0xAB#8, 0x01#8⟩, 0b0100#4) := by decide
/-- VB12, the bytes of S7: stored raw. -/
theorem test_brd_ok_raw : after (exec .brd (withRead (.ok s7) (canon 0x4#4 .hold)))
    (fun t => (t.phase, t.rdOk, t.motion)) = some (0x5#4, 1#1, s7) := by decide
/-- VB14. -/
theorem test_brd_fail_zero : after (exec .brd (withRead .fail (canon 0x4#4 .zero)))
    (fun t => (t.phase, t.rdOk, t.motion, t.errFlags)) =
      some (0x5#4, 0#1, ⟨0x00#8, 0x00#8, 0x00#8, 0x00#8, 0x00#8, 0x00#8⟩, 0b1000#4) := by decide
/-- VP2. -/
theorem test_poll_press : after (exec .poll (withButton 0#1 (canon 0x5#4 .hold)))
    (fun t => (t.trigOut, t.trigPrev, t.phase)) = some (1#1, 1#1, 0x6#4) := by decide
/-- VP4. -/
theorem test_poll_release : after (exec .poll { withButton 1#1 (canon 0x5#4 .hold) with trigPrev := 1#1 })
    (fun t => (t.trigOut, t.trigPrev)) = some (0#1, 0#1) := by decide
/-- VE22. -/
theorem test_enc_document_case : after (exec .enc { canon 0x6#4 .hold with motion := s7, trigOut := 1#1 })
    (fun t => (t.frame, t.motion, t.phase)) = some (s7Frame, s7, 0x7#4) := by decide
/-- VE28. -/
theorem test_enc_header_one : after
    (exec .enc { at' (cfg 0x01#8 false .hold) 0x6#4 with
      motion := ⟨0x01#8, 0x00#8, 0x02#8, 0x01#8, 0x00#8, 0x02#8⟩, trigOut := 1#1 }) State.frame =
      some ⟨0x01#8, 0x02#8, 0x00#8, 0x02#8, 0x02#8, 0x00#8, 0x02#8, 0x01#8⟩ := by decide
/-- VE3, VE4, VE5, VE9, VE12. -/
theorem test_esc : esc 0xAA#8 0xAA#8 = 0xAB#8 ∧ esc 0xAA#8 0xAB#8 = 0xAB#8 ∧ esc 0xAA#8 0xFF#8 = 0xFF#8 ∧
    esc 0xFF#8 0xFF#8 = 0x00#8 ∧ esc 0x7F#8 0x7F#8 = 0x80#8 := by decide
/-- VT7: the byte comes from the parameter, not from `FRAME[0]`. -/
theorem test_txh_accept : after (exec .txh (withStream [.accept] (at' (cfg 0x5A#8 true .hold) 0x2#4)))
    (fun t => (t.txStream, t.phase)) = some ([0x5A#8], 0x3#4) := by decide
/-- VT6. -/
theorem test_txh_drop : after (exec .txh (withStream [.drop] (at' (cfg 0xAA#8 true .hold) 0x2#4)))
    (fun t => (t.txStream, t.phase)) = some ([], 0x3#4) := by decide
/-- VT1. -/
theorem test_txf_folded_accept : after (exec .txf { withStream [.accept] (canon 0x7#4 .hold) with frame := s7Frame })
    (fun t => (t.txStream, t.phase)) =
      some ([0xAA#8, 0xAB#8, 0x01#8, 0x02#8, 0xAB#8, 0x03#8, 0x04#8, 0x01#8], 0x8#4) := by decide
/-- VT3. -/
theorem test_txf_split_accept : after
    (exec .txf { withStream [.accept] (at' (cfg 0xAA#8 true .hold) 0x7#4) with frame := s7Frame })
    State.txStream = some [0xAB#8, 0x01#8, 0x02#8, 0xAB#8, 0x03#8, 0x04#8, 0x01#8] := by decide
/-- VL7, VL8. -/
theorem test_wait : after (exec .wait (canon 0x8#4 .hold)) State.phase = some 0x3#4 ∧
    after (exec .wait (at' (cfg 0xAA#8 true .hold) 0x8#4)) (fun t => (t.phase, t.calls)) =
      some (0x2#4, [.delay 16]) := by decide
/-- VL9: a reserved code has no step. -/
theorem test_step_reserved : step (canon 0x9#4 .hold) = .fault .reservedPhase := rfl
/-- VR1, and VR2 on a state that is not the reset state. -/
theorem test_reset : State.reset.phase = 0x0#4 ∧ State.reset.trigPrev = 0#1 ∧ State.reset.errFlags = 0b0000#4 ∧
    State.afterReset { canon 0x8#4 .hold with errFlags := 0b1111#4, trigPrev := 1#1 } =
      State.resetWith (cfg 0xAA#8 false .hold) := by decide
/-- R86: the 64 bits of the frame of S7. -/
theorem test_frame_bits : s7Frame.bits = 0xAAAB0102AB030401#64 := by decide
/-- R35: `bus_wdata` of `CFGW`, first byte in bits 7:0. -/
theorem test_ports_cfgw : (portsOut (canon 0x1#4 .hold)).busWlen = some 2#2 ∧
    lanesValue (portsOut (canon 0x1#4 .hold)).busWdata = 0x006B := by decide
/-- 20_memory.md section 6: a two-byte write sets a register and leaves the pointer one past it. -/
theorem test_sensor_write : sensor.afterWrite 0x68#7 0x68#7 [0x3C#8, 0x00#8] =
    { sensor with regs := [(0x3B, 0x12#8), (0x3D, 0x56#8), (0x3E, 0x78#8), (0x3F, 0x9A#8)], ptr := 0x3D#8 } := by decide
/-- 20_memory.md section 6: another address is not answered. -/
theorem test_sensor_address : sensor.writeResult 0x68#7 0x69#7 [0x3B#8] = .fail := by decide

/-! ## Witnesses: a state that meets the hypotheses of each statement that has some -/

theorem witness_runEncoding : decodeRun [0x3#4, 0x5#4] = some [.rsel, .poll] := by decide
theorem witness_step : Instr.wf .enc = true ∧ decode (canon 0x6#4 .hold).phase = .instr .enc ∧
    decodeTableWord 4 0x6 = some .enc := by decide
theorem witness_reserved : 9 ≤ (canon 0x9#4 .hold).phase.toNat ∧ (canon 0x8#4 .hold).phase.toNat ≤ 8 := by decide
theorem witness_pending_busInit : (withInit .fail (canon 0x0#4 .hold)).inputs.busInit.pending = .fail :: [] := rfl
theorem witness_pending_busWrite : (withWrite .ok (canon 0x3#4 .hold)).bench = none ∧
    (withWrite .ok (canon 0x3#4 .hold)).inputs.busWrite.pending = .ok :: [] := ⟨rfl, rfl⟩
theorem witness_pending_busRead : (withRead (.ok s7) (canon 0x4#4 .hold)).bench = none ∧
    (withRead (.ok s7) (canon 0x4#4 .hold)).inputs.busRead.pending = .ok s7 :: [] := ⟨rfl, rfl⟩
theorem witness_pending_button : (withButton 0#1 (canon 0x5#4 .hold)).inputs.button.pending = 0#1 :: [] := rfl
theorem witness_pending_stream : (withStream [.drop] (canon 0x7#4 .hold)).inputs.stream.pending = .drop :: [] := rfl
theorem witness_pending_fill : (withFill s7 (canon 0x3#4 .draw)).config.failPolicy = .draw ∧
    (withFill s7 (canon 0x3#4 .draw)).inputs.fill.pending = s7 :: [] := ⟨rfl, rfl⟩
theorem witness_rsel_ok : busWriteAnswer [0x3B#8] (withWrite .ok (canon 0x3#4 .hold)) = .ok := rfl
theorem witness_rsel_fail : busWriteAnswer [0x3B#8] (withWrite .fail (canon 0x3#4 .draw)) = .fail := rfl
theorem witness_brd_ok : busReadAnswer (withRead (.ok s7) (canon 0x4#4 .hold)) = .ok s7 := rfl
theorem witness_brd_fail : busReadAnswer (withRead .fail (canon 0x4#4 .zero)) = .fail := rfl
/-- A step that leads to `BRD`. -/
theorem witness_reaches_brd : ∃ t, step (withWrite .ok (canon 0x3#4 .hold)) = .next t ∧ t.phase = 0x4#4 := ⟨_, rfl, rfl⟩
/-- A step that leads to `CFGW`. -/
theorem witness_reaches_cfgw : ∃ t, step (withInit .fail (canon 0x0#4 .hold)) = .next t ∧ t.phase = 0x1#4 := ⟨_, rfl, rfl⟩
theorem witness_policies : (canon 0x3#4 .hold).config.failPolicy = .hold ∧
    (canon 0x3#4 .zero).config.failPolicy = .zero ∧ (canon 0x3#4 .draw).config.failPolicy = .draw := by decide
/-- The four rows of the truth table of `POLL`. -/
theorem witness_truthTable (prev raw : Bit) :
    { withButton raw (canon 0x5#4 .hold) with trigPrev := prev }.inputs.button.pending = raw :: [] ∧
    { withButton raw (canon 0x5#4 .hold) with trigPrev := prev }.trigPrev = prev := ⟨rfl, rfl⟩
/-- Any operation answers a next state from any state: the hypothesis of the frame statements. -/
theorem witness_exec : ∃ t, exec .cfgw (withWrite .ok (canon 0x1#4 .hold)) = .next t := ⟨_, rfl⟩
theorem witness_exec_poll : ∃ t, exec .poll (withButton 0#1 (canon 0x5#4 .hold)) = .next t := ⟨_, rfl⟩
/-- A new event in the calls: the hypothesis of the bus format statement, for a write and for a read. -/
theorem witness_busCalls :
    (∃ t r, exec .rsel (withWrite .ok (canon 0x3#4 .hold)) = .next t ∧
      .busWrite 0x68#7 [0x3B#8] 1000 r ∈ t.calls.drop (canon 0x3#4 .hold).calls.length) ∧
    (∃ t r, exec .brd (withRead .fail (canon 0x4#4 .hold)) = .next t ∧
      .busRead 0x68#7 6 1000 r ∈ t.calls.drop (canon 0x4#4 .hold).calls.length) :=
  ⟨⟨_, .ok, rfl, List.mem_cons_self⟩, ⟨_, .fail, rfl, List.mem_cons_self⟩⟩
/-- A set flag that stays, and one that changes. -/
theorem witness_sticky : ∃ t, step { withWrite .fail (canon 0x3#4 .hold) with errFlags := 0b0001#4 } = .next t ∧
    ({ withWrite .fail (canon 0x3#4 .hold) with errFlags := 0b0001#4 }).errFlags.getLsbD 0 = true ∧
    t.errFlags.getLsbD 2 ≠ ({ withWrite .fail (canon 0x3#4 .hold) with errFlags := 0b0001#4 }).errFlags.getLsbD 2 :=
  ⟨_, rfl, by decide, by decide⟩

/-- The state after a failed select of a build that had failed its configuration write: every invariant's state in one,
reached by no reset, with a step. -/
def running : State :=
  { withButton 0#1 (withWrite .fail (canon 0x3#4 .hold)) with
    errFlags := 0b0010#4
    errLog := [.busTransferError .cfgw]
    busLog := [.init .ok, .write 0x68#7 [0x6B#8, 0x00#8] .fail]
    frame := s7Frame
    txStream := s7Frame.toList
    calls := [.busInit .ok, .busWrite 0x68#7 [0x6B#8, 0x00#8] 1000 .fail, .streamWrite s7Frame.toList .accept]
    bench := some { sensor with present := false } }

theorem witness_running_step : ∃ t, step running = .next t := ⟨_, rfl⟩
theorem witness_legalPhase : legalPhase running = true := by decide
theorem witness_flagsMirrorLog : FlagsMirrorLog running := by
  intro e; rcases e with _ | (_ | _ | _) <;> decide
theorem witness_errLog : ErrLogIsBusFailures running := rfl
theorem witness_busLogShaped : BusLogShaped running := by unfold BusLogShaped; decide
theorem witness_streamIsAccepted : StreamIsAcceptedWrites running := rfl
theorem witness_frameBuilt : FrameBuilt running.config.header running.frame := by unfold FrameBuilt; decide
theorem witness_pulse : PulseWhilePressed { canon 0x6#4 .hold with trigOut := 1#1, trigPrev := 1#1 } := fun _ => rfl
theorem witness_memoryWf : memoryWf running = true := by decide
theorem witness_foldedStream : FoldedStream running :=
  ⟨rfl, by decide, fun _ => witness_frameBuilt, [s7Frame], by decide, by
    intro f hf; rw [List.mem_singleton.1 hf]; exact witness_frameBuilt⟩
/-- The hypotheses of the header statement, at a frame start and inside a frame. -/
theorem witness_headerOccurs : running.config.header ≠ 0x00#8 ∧ running.config.header ≠ 0x01#8 ∧
    running.txStream[0]? = some 0xAA#8 ∧ running.txStream[7]? = some 0x01#8 := by decide
/-- A cycle start, folded and split; the frame write; the start. -/
theorem witness_phases : (canon 0x3#4 .hold).phase = cycleStart (canon 0x3#4 .hold).config ∧
    (at' (cfg 0xAA#8 true .hold) 0x2#4).phase = cycleStart (at' (cfg 0xAA#8 true .hold) 0x2#4).config ∧
    (canon 0x7#4 .hold).phase = Phase.txf ∧ (canon 0x0#4 .hold).phase = Phase.binit := by decide
/-- A cycle answers a next state from any state. -/
theorem witness_sampleCycle : ∃ t, sampleCycle running = .next t ∧ t.errLog = running.errLog ++ [.busTransferError .rsel] :=
  ⟨_, rfl, rfl⟩
/-- The three clauses of `read_motion()`. -/
theorem witness_readMotion :
    busWriteAnswer [0x3B#8] (withRead .fail (withWrite .ok (canon 0x3#4 .hold))) = .ok ∧
    busReadAnswer (busWrite [0x3B#8] (withRead (.ok s7) (withWrite .ok (canon 0x3#4 .hold)))) = .ok s7 ∧
    busReadAnswer (busWrite [0x3B#8] (withRead .fail (withWrite .ok (canon 0x3#4 .hold)))) = .fail ∧
    busWriteAnswer [0x3B#8] (withWrite .fail (canon 0x3#4 .hold)) = .fail := by decide

/-- The answers of cycle 1 of program A. -/
def goodCycle : State :=
  withStream [.accept] (withButton 0#1 (withRead (.ok s7) (withWrite .ok (canon 0x3#4 .hold))))

theorem witness_goodCycle : goodCycle.phase = Phase.rsel ∧ goodCycle.config.headerSplit = false ∧
    goodCycle.bench = none ∧ goodCycle.inputs.busWrite.pending = .ok :: [] ∧
    goodCycle.inputs.busRead.pending = .ok s7 :: [] ∧ goodCycle.inputs.button.pending = 0#1 :: [] ∧
    goodCycle.inputs.stream.pending = .accept :: [] := by decide
/-- A failing select, and a failing burst read. -/
theorem witness_failedRead (r : BusResult) :
    let s := withStream [.accept] (withButton 0#1 (withRead .fail (withWrite r (canon 0x3#4 .hold))))
    s.phase = Phase.rsel ∧ s.config.headerSplit = false ∧ s.config.failPolicy = .hold ∧ s.bench = none ∧
    s.inputs.busWrite.pending = r :: [] ∧ (r = .ok → s.inputs.busRead.pending.head? = some .fail) ∧
    s.inputs.button.pending = 0#1 :: [] ∧ s.inputs.stream.pending = .accept :: [] :=
  ⟨rfl, rfl, rfl, rfl, rfl, fun _ => rfl, rfl, rfl⟩
/-- All four outcomes of a split cycle. -/
theorem witness_splitCycle (header frame : StreamResult) :
    let s := withStream [header, frame] (at' (cfg 0xFF#8 true .zero) 0x2#4)
    s.phase = Phase.txh ∧ s.config.headerSplit = true ∧ s.inputs.stream.pending = header :: frame :: [] :=
  ⟨rfl, rfl, rfl⟩
theorem witness_released : (canon 0x5#4 .hold).trigPrev = 0#1 := rfl
/-- A bound sensor, present and absent, with six registers above `REG_FIRST`. -/
theorem witness_boundSensor : sensor.present = true ∧
    { canon 0x1#4 .hold with bench := some sensor }.bench = some sensor ∧
    memoryWf { canon 0x1#4 .hold with bench := some sensor } = true ∧
    (canon 0x1#4 .hold).config.regFirst.toNat + 5 ≤ 0xFF ∧
    { sensor with present := false }.present = false := by decide
/-- A step with one new call. -/
theorem witness_ports : ∃ t, step (canon 0x8#4 .hold) = .next t ∧ t.calls = (canon 0x8#4 .hold).calls ++ [.delay 16] :=
  ⟨_, rfl, rfl⟩
theorem witness_folded_reset : (cfg 0xAA#8 false .hold).headerSplit = false := rfl

end Sys2Proof.Machine.Tests
end

/-! PROOFS of the family 20_memory.md: what one step does to `TXSTREAM` and to the history of calls. -/

namespace Sys2Proof.Machine

/-! ## What each call put on the stream -/

@[simp] theorem Call.sent_streamWrite (bytes : List Byte) (r : StreamResult) :
    (Call.streamWrite bytes r).sent = delivered bytes r := rfl
@[simp] theorem Call.sent_busInit (r : BusResult) : (Call.busInit r).sent = [] := rfl
@[simp] theorem Call.sent_busWrite (a7 : BusAddr) (bytes : List Byte) (ms : Nat) (r : BusResult) :
    (Call.busWrite a7 bytes ms r).sent = [] := rfl
@[simp] theorem Call.sent_busRead (a7 : BusAddr) (n ms : Nat) (r : ReadResult) :
    (Call.busRead a7 n ms r).sent = [] := rfl
@[simp] theorem Call.sent_buttonLevel (raw : Bit) : (Call.buttonLevel raw).sent = [] := rfl
@[simp] theorem Call.sent_delay (ms : Nat) : (Call.delay ms).sent = [] := rfl

/-! ## The stream grows with the calls -/

/-- The calls an operation makes are appended to the history, and `TXSTREAM` grows by exactly what those calls sent
(20_memory.md R72): the cases are grouped by the primitive the operation calls. -/
theorem Effect.calls_and_txStream_grow {s t : State} {i : Instr} (h : Effect s i t) :
    ∃ new : List Call, t.calls = s.calls ++ new ∧ t.txStream = s.txStream ++ new.flatMap Call.sent := by
  cases h with
  | txh => exact ⟨[.streamWrite (headerBytes s.config) (streamAnswer s)], by simp, by simp⟩
  | txf => exact ⟨[.streamWrite (frameBytes s.config s.frame) (streamAnswer s)], by simp, by simp⟩
  | binitOk | binitFail => exact ⟨[.busInit (busInitAnswer s)], by simp, by simp⟩
  | cfgwOk | cfgwFail =>
    exact ⟨[.busWrite s.config.devAddr (cfgBytes s.config) s.config.busTimeoutMs
      (busWriteAnswer (cfgBytes s.config) s)], by simp, by simp⟩
  | rselOk | rselFail =>
    exact ⟨[.busWrite s.config.devAddr (selectBytes s.config) s.config.busTimeoutMs
      (busWriteAnswer (selectBytes s.config) s)], by simp, by simp⟩
  | brdOk | brdFail =>
    exact ⟨[.busRead s.config.devAddr burstLength s.config.busTimeoutMs (busReadAnswer s)], by simp, by simp⟩
  | poll => exact ⟨[.buttonLevel (buttonAnswer s)], by simp, by simp⟩
  | wait => exact ⟨[.delay s.config.periodMs], by simp, by simp⟩
  | enc => exact ⟨[], by simp, by simp⟩

/-- Growing the history by some calls, and the stream by what they sent, keeps the invariant. -/
theorem StreamIsAcceptedWrites.append {s t : State} {new : List Call} (hs : StreamIsAcceptedWrites s)
    (hcalls : t.calls = s.calls ++ new) (hstream : t.txStream = s.txStream ++ new.flatMap Call.sent) :
    StreamIsAcceptedWrites t := by
  unfold StreamIsAcceptedWrites at hs ⊢
  rw [hcalls, hstream, hs, List.flatMap_append]

/-- Settles O49: a step appends its calls to the history and exactly what they sent to the stream. -/
theorem streamIsTheAcceptedWritesInOrder : Obligations.StreamIsTheAcceptedWritesInOrder := by
  intro s t hs hstep
  obtain ⟨i, -, heffect⟩ := step_effect hstep
  obtain ⟨new, hcalls, hstream⟩ := heffect.calls_and_txStream_grow
  exact hs.append hcalls hstream

end Sys2Proof.Machine

/-! PROOFS of the family 30_encoding.md: the calls each operation makes, and the bytes and bits of the frame `ENC`
builds. -/

namespace Sys2Proof.Machine

/-! ## The calls of an operation -/

/-- The primitive calls an operation makes from a state, with their arguments and answers (00_scope.md R18). -/
def callsOf (s : State) : Instr → List Call
  | .binit => [.busInit (busInitAnswer s)]
  | .cfgw => [.busWrite s.config.devAddr (cfgBytes s.config) s.config.busTimeoutMs
      (busWriteAnswer (cfgBytes s.config) s)]
  | .rsel => [.busWrite s.config.devAddr (selectBytes s.config) s.config.busTimeoutMs
      (busWriteAnswer (selectBytes s.config) s)]
  | .brd => [.busRead s.config.devAddr burstLength s.config.busTimeoutMs (busReadAnswer s)]
  | .poll => [.buttonLevel (buttonAnswer s)]
  | .txh => [.streamWrite (headerBytes s.config) (streamAnswer s)]
  | .txf => [.streamWrite (frameBytes s.config s.frame) (streamAnswer s)]
  | .wait => [.delay s.config.periodMs]
  | .enc => []

/-- An operation appends exactly its own calls to the history. -/
theorem Effect.calls_eq {s t : State} {i : Instr} (h : Effect s i t) : t.calls = s.calls ++ callsOf s i := by
  cases h <;> simp [callsOf]

/-- A bus write is the configuration write of `CFGW` or the select write of `RSEL` (30_encoding.md R82). -/
theorem busWrite_mem_callsOf {s : State} {i : Instr} {a7 : BusAddr} {bytes : List Byte} {ms : Nat} {r : BusResult}
    (h : .busWrite a7 bytes ms r ∈ callsOf s i) :
    a7 = s.config.devAddr ∧ ms = s.config.busTimeoutMs ∧
      ((i = .cfgw ∧ bytes = cfgBytes s.config) ∨ (i = .rsel ∧ bytes = selectBytes s.config)) := by
  cases i with
  | cfgw =>
    obtain ⟨rfl, rfl, rfl, -⟩ := Call.busWrite.inj (List.mem_singleton.mp h)
    exact ⟨rfl, rfl, .inl ⟨rfl, rfl⟩⟩
  | rsel =>
    obtain ⟨rfl, rfl, rfl, -⟩ := Call.busWrite.inj (List.mem_singleton.mp h)
    exact ⟨rfl, rfl, .inr ⟨rfl, rfl⟩⟩
  | _ => simp [callsOf] at h

/-- A bus read is the burst read of `BRD` (30_encoding.md R83). -/
theorem busRead_mem_callsOf {s : State} {i : Instr} {a7 : BusAddr} {n ms : Nat} {r : ReadResult}
    (h : .busRead a7 n ms r ∈ callsOf s i) :
    i = .brd ∧ a7 = s.config.devAddr ∧ ms = s.config.busTimeoutMs ∧ n = burstLength := by
  cases i with
  | brd =>
    obtain ⟨rfl, rfl, rfl, -⟩ := Call.busRead.inj (List.mem_singleton.mp h)
    exact ⟨rfl, rfl, rfl, rfl⟩
  | _ => simp [callsOf] at h

/-- Settles O27: what an operation appends to the history is `callsOf`, whose bus calls have the three formats. -/
theorem busCarriesOnlyTheThreeFormats : Obligations.BusCarriesOnlyTheThreeFormats := by
  intro i s t hexec
  have hcalls : t.calls = s.calls ++ callsOf s i := (exec_effect hexec).calls_eq
  have hnew : t.calls.drop s.calls.length = callsOf s i := by rw [hcalls, List.drop_left]
  rw [hnew]
  refine ⟨fun _ _ _ _ h => busWrite_mem_callsOf h, fun _ _ _ _ h => busRead_mem_callsOf h, ?cfgw, ?rsel, ?brd⟩
  all_goals
    rintro rfl
    exact ⟨_, hcalls⟩

/-! ## The frame `ENC` builds -/

/-- Settles O20: the frame is `buildFrame`, and no adjusted byte is the header. -/
theorem frameCarriesTheAdjustedBytesInOrder : Obligations.FrameCarriesTheAdjustedBytesInOrder := by
  intro s
  refine ⟨_, exec_enc s, rfl, rfl, fun v hv => ?_⟩
  obtain ⟨w, -, rfl⟩ : ∃ w ∈ sampleBytes s.motion, esc s.config.header w = v := List.mem_map.mp hv
  exact esc_ne_header _ w

/-- The trigger byte of a poll: 0x01 exactly on the press edge, a low level after a released one. -/
theorem zext8_pressEdge_pressedOf (raw prev : Bit) :
    zext8 (pressEdge (pressedOf raw) prev) = if prev = 0#1 ∧ raw = 0#1 then 0x01#8 else 0x00#8 := by
  revert raw prev; decide

/-- Settles O21: `ENC` extends the edge bit that `POLL` has left in `TRIG_OUT`, whatever the header. -/
theorem triggerByteMarksThePressEdge : Obligations.TriggerByteMarksThePressEdge := fun s =>
  ⟨_, _, exec_poll s, exec_enc _, zext8_pressEdge_pressedOf (buttonAnswer s) s.trigPrev⟩

/-- The trigger byte's bits, most significant first: seven zeros and the trigger bit. -/
theorem zext8_eq_append (b : Bit) : zext8 b = 0#7 ++ b := by
  revert b; decide

/-- Settles O22: the layout is `buildFrame`'s own, its last byte written out in bits. -/
theorem frameIsEightBytesInTheLayout : Obligations.FrameIsEightBytesInTheLayout := by
  intro header m trig f
  refine ⟨rfl, rfl, rfl, ?bits⟩
  rw [← zext8_eq_append]
  rfl

end Sys2Proof.Machine

/-! PROOFS of the family 41_bus_sequencer.md: the successor of an operation, the bus accesses of a cycle, and the
whole next states of `CFGW` and `BRD`. -/

namespace Sys2Proof.Machine

/-! ## Where a step leads -/

/-- An operation leaves in `PHASE` its entry in the successor table (45_sample_loop.md R165). -/
theorem Effect.phase_eq_successor {s t : State} {i : Instr} (h : Effect s i t) :
    t.phase = successor s.config (decide (busWriteAnswer (selectBytes s.config) s = .ok)) i := by
  cases h with
  | rselOk h | rselFail h => simp [successor, h]
  | _ => rfl

theorem cycleStart_cases (c : Config) : cycleStart c = Phase.txh ∨ cycleStart c = Phase.rsel := by
  unfold cycleStart
  split
  · exact .inl rfl
  · exact .inr rfl

theorem successor_ne_binit (c : Config) (selected : Bool) (i : Instr) : successor c selected i ≠ Phase.binit := by
  cases i with
  | cfgw | wait => rcases cycleStart_cases c with h | h <;> simp [successor, h]
  | rsel => cases selected <;> simp [successor]
  | _ => simp [successor]

theorem eq_binit_of_successor_eq_cfgw {c : Config} {selected : Bool} {i : Instr}
    (h : successor c selected i = Phase.cfgw) : i = .binit := by
  cases i with
  | binit => rfl
  | cfgw | wait => rcases cycleStart_cases c with hc | hc <;> simp [successor, hc] at h
  | rsel => cases selected <;> simp [successor] at h
  | _ => simp [successor] at h

theorem eq_rsel_of_successor_eq_brd {c : Config} {selected : Bool} {i : Instr}
    (h : successor c selected i = Phase.brd) : i = .rsel ∧ selected = true := by
  cases i with
  | rsel => cases selected <;> simp [successor] at h ⊢
  | cfgw | wait => rcases cycleStart_cases c with hc | hc <;> simp [successor, hc] at h
  | _ => simp [successor] at h

/-- No step returns to `BINIT`, and only `BINIT` leads to `CFGW` (41_bus_sequencer.md R102). -/
theorem step_startUp_once {s t : State} (h : step s = .next t) :
    t.phase ≠ Phase.binit ∧ (t.phase = Phase.cfgw → s.phase = Phase.binit) := by
  obtain ⟨i, hphase, heffect⟩ := step_effect h
  rw [heffect.phase_eq_successor]
  refine ⟨successor_ne_binit _ _ _, fun hcfgw => ?_⟩
  rw [hphase, eq_binit_of_successor_eq_cfgw hcfgw]
  rfl

/-- `BINIT` leads to `CFGW`, whatever its answer. -/
theorem exec_binit_reaches_cfgw (s : State) : ∃ t, exec .binit s = .next t ∧ t.phase = Phase.cfgw :=
  ⟨_, exec_binit s, rfl⟩

/-- A step leads to `BRD` only from a select whose write returned `ok` (41_bus_sequencer.md R105). -/
theorem step_reaches_brd {s t : State} (h : step s = .next t) (hbrd : t.phase = Phase.brd) :
    s.phase = Phase.rsel ∧ busWriteAnswer (selectBytes s.config) s = .ok := by
  obtain ⟨i, hphase, heffect⟩ := step_effect h
  rw [heffect.phase_eq_successor] at hbrd
  obtain ⟨rfl, hok⟩ := eq_rsel_of_successor_eq_brd hbrd
  exact ⟨hphase, of_decide_eq_true hok⟩

/-! ## The bus accesses between two states -/

/-- The history of `t` is that of `s` and some more calls, of which `writes` are bus writes and `reads` bus reads. -/
def BusAccesses (s t : State) (writes reads : Nat) : Prop :=
  ∃ new : List Call, t.calls = s.calls ++ new ∧
    new.countP Call.isBusWrite = writes ∧ new.countP Call.isBusRead = reads

theorem BusAccesses.refl (s : State) : BusAccesses s s 0 0 := ⟨[], by simp⟩

theorem BusAccesses.trans {s t u : State} {w₁ r₁ w₂ r₂ : Nat} (h₁ : BusAccesses s t w₁ r₁)
    (h₂ : BusAccesses t u w₂ r₂) : BusAccesses s u (w₁ + w₂) (r₁ + r₂) := by
  obtain ⟨new₁, hcalls₁, rfl, rfl⟩ := h₁
  obtain ⟨new₂, hcalls₂, rfl, rfl⟩ := h₂
  exact ⟨new₁ ++ new₂, by rw [hcalls₂, hcalls₁, List.append_assoc], List.countP_append, List.countP_append⟩

/-- The bus accesses of one operation are those among its own calls. -/
theorem exec_busAccesses {i : Instr} {s t : State} (h : exec i s = .next t) :
    BusAccesses s t ((callsOf s i).countP Call.isBusWrite) ((callsOf s i).countP Call.isBusRead) :=
  ⟨callsOf s i, (exec_effect h).calls_eq, rfl, rfl⟩

/-! ## The bus accesses of a cycle -/

/-- A sequence goes on exactly when both of its parts do. -/
theorem andThen_eq_next {o : Host.Outcome State Fault Refusal} {f : State → Host.Outcome State Fault Refusal}
    {t : State} : andThen o f = .next t ↔ ∃ s, o = .next s ∧ f s = .next t := by
  cases o <;> simp [andThen]

theorem headerWrite_busAccesses {s t : State} (h : headerWrite s = .next t) : BusAccesses s t 0 0 := by
  unfold headerWrite at h
  split at h
  · exact exec_busAccesses h
  · cases h
    exact .refl s

/-- `read_motion()` makes one select write, and at most one burst read after it. -/
theorem readMotion_busAccesses {s t : State} (h : readMotion s = .next t) :
    ∃ reads ≤ 1, BusAccesses s t 1 reads := by
  obtain ⟨a, hrsel, hrest⟩ := andThen_eq_next.mp h
  have hselect : BusAccesses s a 1 0 := exec_busAccesses hrsel
  split at hrest
  · exact ⟨1, le_rfl, hselect.trans (exec_busAccesses hrest)⟩
  · cases hrest
    exact ⟨0, Nat.zero_le 1, hselect⟩

/-- The bus accesses of a cycle are those of its `read_motion()`. -/
theorem sampleCycle_busAccesses {s t : State} (h : sampleCycle s = .next t) :
    ∃ reads ≤ 1, BusAccesses s t 1 reads := by
  obtain ⟨a, hheader, h⟩ := andThen_eq_next.mp h
  obtain ⟨b, hread, h⟩ := andThen_eq_next.mp h
  obtain ⟨c, hpoll, h⟩ := andThen_eq_next.mp h
  obtain ⟨d, henc, h⟩ := andThen_eq_next.mp h
  obtain ⟨e, htxf, hwait⟩ := andThen_eq_next.mp h
  obtain ⟨reads, hle, hreads⟩ := readMotion_busAccesses hread
  have hbefore : BusAccesses s b 1 reads := by
    simpa using (headerWrite_busAccesses hheader).trans hreads
  have hafter : BusAccesses b t 0 0 :=
    (((exec_busAccesses hpoll).trans (exec_busAccesses henc)).trans (exec_busAccesses htxf)).trans
      (exec_busAccesses hwait)
  exact ⟨reads, hle, hbefore.trans hafter⟩

/-- Settles O34: the accesses of a cycle are counted by `sampleCycle_busAccesses`; the start-up order is the successor
table's. -/
theorem noRetryInsideACycle : Obligations.NoRetryInsideACycle := by
  refine ⟨fun s t hcycle => ?cycle, fun s => ⟨rfl, ?reset⟩, fun _ _ => step_startUp_once⟩
  case cycle =>
    obtain ⟨reads, hle, new, hcalls, hwrites, rfl⟩ := sampleCycle_busAccesses hcycle
    rw [hcalls, List.drop_left]
    exact ⟨hwrites, hle⟩
  case reset =>
    rw [step_of_phase s.afterReset .binit rfl]
    exact exec_binit_reaches_cfgw s.afterReset

/-! ## The whole next states of `CFGW` and `BRD` -/

/-- Recording an outcome changes `ERRFLAGS` and `ERRLOG` alone, and only on `fail`. -/
theorem raiseOnFail_eq (r : BusResult) (e : BusError) (s : State) : raiseOnFail r e s =
    { s with
      errFlags := if r = .fail then setErrFlag s.errFlags e else s.errFlags
      errLog := if r = .fail then s.errLog ++ [e] else s.errLog } := by
  cases r <;> rfl

/-- Settles O8: the whole next state is `exec_cfgw` with the outcome recorded, and the order is the successor
table's. -/
theorem cfgwSendsTheConfigurationOnce : Obligations.CfgwSendsTheConfigurationOnce := by
  refine ⟨rfl, fun s => ?state, exec_binit_reaches_cfgw, fun _ _ => step_startUp_once⟩
  rw [exec_cfgw, raiseOnFail_eq]
  rfl

/-- A burst read whose answer is known. -/
theorem busRead_of_answer {s : State} {r : ReadResult} (h : busReadAnswer s = r) : busRead s =
    { s with
      inputs := inputsAfterRead s
      bench := benchAfterRead s
      busLog := s.busLog ++ [.read s.config.devAddr burstLength r]
      calls := s.calls ++ [.busRead s.config.devAddr burstLength s.config.busTimeoutMs r] } := by
  subst h
  rfl

/-- Settles O11: each outcome of the read is `exec_brd` at that answer, and only a good select leads to it. -/
theorem brdCommitsTheSixBytesOnlyOnOk : Obligations.BrdCommitsTheSixBytesOnlyOnOk := by
  refine ⟨rfl, fun s b hok => ?ok, fun s hfail => ?fail, fun _ _ => step_reaches_brd⟩
  case ok =>
    rw [exec_brd, hok, busRead_of_answer hok]
    rfl
  case fail =>
    rw [exec_brd, hfail, busRead_of_answer hfail]
    rfl

end Sys2Proof.Machine

/-! PROOFS of the family 42_frame_encoder.md: the adjustment `esc` and the whole next state of `ENC`. -/

namespace Sys2Proof.Machine

@[simp] theorem esc_header (header : Byte) : esc header header = header + 1#8 := if_pos rfl

theorem esc_of_ne {header v : Byte} (h : v ≠ header) : esc header v = v := if_neg h

/-- The adjustment on numbers (42_frame_encoder.md R121): the header alone goes to its successor modulo 256. -/
theorem toNat_esc (header v : Byte) : (esc header v).toNat =
    if v.toNat = header.toNat then (v.toNat + 1) % 256 else v.toNat := by
  simp only [BitVec.toNat_inj]
  split
  case isTrue heq => rw [heq, esc_header, BitVec.toNat_add]; rfl
  case isFalse hne => rw [esc_of_ne hne]

/-- Settles O18: the numbers are `toNat_esc`, and the default header is an instance. -/
theorem escapeIncrementsTheHeaderModulo256 : Obligations.EscapeIncrementsTheHeaderModulo256 :=
  ⟨toNat_esc, esc_header 0xAA#8, fun _ => esc_of_ne⟩

/-- Settles O15: `exec_enc` writes the frame of `buildFrame` and `PHASE`; the stated adjustment is `esc` written
out. -/
theorem encBuildsTheFrame : Obligations.EncBuildsTheFrame :=
  ⟨rfl, exec_enc⟩

end Sys2Proof.Machine

/-! PROOFS of the family 43_edge_detector.md: the whole next state of `POLL`, and that no other operation reads or
writes `TRIG_PREV`. -/

namespace Sys2Proof.Machine

/-- Settles O13: `exec_poll`; the stated bits are `pressedOf` and `pressEdge` written out. -/
theorem pollDetectsThePressEdge : Obligations.PollDetectsThePressEdge :=
  ⟨rfl, exec_poll⟩

/-- The converse of `exec_effect`: each case of the inversion is what the operation answers. -/
theorem Effect.exec_eq_next {s t : State} {i : Instr} (h : Effect s i t) : exec i s = .next t := by
  cases h with
  | binitOk h | binitFail h => rw [exec_binit, h]; rfl
  | cfgwOk h | cfgwFail h => rw [exec_cfgw, h]; rfl
  | rselOk h | rselFail h => rw [exec_rsel, h]; rfl
  | brdOk _ h | brdFail h => rw [exec_brd, h]; rfl
  | txh | poll | enc | txf | wait => rfl

/-! ## Noninterference of `TRIG_PREV` (43_edge_detector.md R145) -/

/-- The same state with another value in `TRIG_PREV`. -/
def setTrigPrev (b : Bit) (s : State) : State := { s with trigPrev := b }

/-- The failure policy does not look at `TRIG_PREV`. -/
theorem failMotion_setTrigPrev (b : Bit) (s : State) :
    failMotion (setTrigPrev b s) = setTrigPrev b (failMotion s) := by
  simp only [failMotion, setTrigPrev]
  split <;> rfl

theorem failRead_setTrigPrev (site : Site) (b : Bit) (s : State) :
    failRead site (setTrigPrev b s) = setTrigPrev b (failRead site s) :=
  failMotion_setTrigPrev b (setRdOk 0#1 (raise (.busTransferError site) s))

/-- An operation other than `POLL` leaves `TRIG_PREV` as it is. -/
theorem Effect.trigPrev_eq {s t : State} {i : Instr} (h : Effect s i t) (hi : i ≠ .poll) :
    t.trigPrev = s.trigPrev := by
  cases h with
  | poll => exact absurd rfl hi
  | _ => simp

/-- An operation other than `POLL` does the same whatever `TRIG_PREV` holds. Its answer never depends on the bit, and
all updates but those of a failed read commute with it by definition. -/
theorem Effect.trigPrev_irrelevant {s t : State} {i : Instr} (h : Effect s i t) (hi : i ≠ .poll) (b : Bit) :
    Effect (setTrigPrev b s) i (setTrigPrev b t) := by
  cases h with
  | poll => exact absurd rfl hi
  | rselFail h =>
    have hfail : Effect (setTrigPrev b s) .rsel (setPhase Phase.poll
        (failRead .rsel (setTrigPrev b (busWrite (selectBytes s.config) s)))) := .rselFail h
    rwa [failRead_setTrigPrev] at hfail
  | brdFail h =>
    have hfail : Effect (setTrigPrev b s) .brd (setPhase Phase.poll
        (failRead .brd (setTrigPrev b (busRead s)))) := .brdFail h
    rwa [failRead_setTrigPrev] at hfail
  | binitOk h => exact .binitOk h
  | binitFail h => exact .binitFail h
  | cfgwOk h => exact .cfgwOk h
  | cfgwFail h => exact .cfgwFail h
  | rselOk h => exact .rselOk h
  | brdOk m h => exact .brdOk m h
  | txh => exact .txh
  | enc => exact .enc
  | txf => exact .txf
  | wait => exact .wait

/-- Settles O24: `POLL` is `exec_poll`; the effect of any other operation neither changes the bit nor depends on
it. -/
theorem onlyPollReadsOrWritesTrigPrev : Obligations.OnlyPollReadsOrWritesTrigPrev := by
  refine ⟨fun s t hpoll => ?poll, fun i s t b hi hexec => ?other⟩
  case poll =>
    cases (exec_poll s).symm.trans hpoll
    exact ⟨rfl, rfl⟩
  case other =>
    have heffect := exec_effect hexec
    exact ⟨heffect.trigPrev_eq hi, (heffect.trigPrev_irrelevant hi b).exec_eq_next⟩

end Sys2Proof.Machine

/-! PROOFS of the family 44_serial_tx_framer.md: the whole next state of `TXF`, and that `RD_OK` and `ERRFLAGS` reach
no other item of state. -/

namespace Sys2Proof.Machine

/-! ## Noninterference of `RD_OK` and `ERRFLAGS` (44_serial_tx_framer.md R158) -/

/-- The same state with other values in `RD_OK` and `ERRFLAGS`. -/
def setStatus (b : Bit) (flags : BitVec 4) (s : State) : State := { s with rdOk := b, errFlags := flags }

/-- The failure policy does not look at the status bits. -/
theorem failMotion_setStatus (b : Bit) (flags : BitVec 4) (s : State) :
    failMotion (setStatus b flags s) = setStatus b flags (failMotion s) := by
  simp only [failMotion, setStatus]
  split <;> rfl

/-- A failed read clears `RD_OK` and adds its bit to `ERRFLAGS`; what else it does is the same whatever they held. -/
theorem failRead_setStatus (site : Site) (b : Bit) (flags : BitVec 4) (s : State) :
    failRead site (setStatus b flags s) =
      setStatus 0#1 (setErrFlag flags (.busTransferError site)) (failRead site s) :=
  failMotion_setStatus _ _ (setRdOk 0#1 (raise (.busTransferError site) s))

/-- An operation does the same, but for the status bits themselves, whatever they hold. No answer depends on them: a
good outcome keeps them or sets `RD_OK`, and a failed one adds its own bit to `ERRFLAGS`. -/
theorem Effect.status_irrelevant {s t : State} {i : Instr} (h : Effect s i t) (b : Bit) (flags : BitVec 4) :
    ∃ b' flags', Effect (setStatus b flags s) i (setStatus b' flags' t) := by
  cases h with
  | rselFail h =>
    have hfail : Effect (setStatus b flags s) .rsel (setPhase Phase.poll
        (failRead .rsel (setStatus b flags (busWrite (selectBytes s.config) s)))) := .rselFail h
    rw [failRead_setStatus] at hfail
    exact ⟨_, _, hfail⟩
  | brdFail h =>
    have hfail : Effect (setStatus b flags s) .brd (setPhase Phase.poll
        (failRead .brd (setStatus b flags (busRead s)))) := .brdFail h
    rw [failRead_setStatus] at hfail
    exact ⟨_, _, hfail⟩
  | binitFail h => exact ⟨b, setErrFlag flags .busConfigError, .binitFail h⟩
  | cfgwFail h => exact ⟨b, setErrFlag flags (.busTransferError .cfgw), .cfgwFail h⟩
  | brdOk m h => exact ⟨1#1, flags, .brdOk m h⟩
  | binitOk h => exact ⟨b, flags, .binitOk h⟩
  | cfgwOk h => exact ⟨b, flags, .cfgwOk h⟩
  | rselOk h => exact ⟨b, flags, .rselOk h⟩
  | txh => exact ⟨b, flags, .txh⟩
  | poll => exact ⟨b, flags, .poll⟩
  | enc => exact ⟨b, flags, .enc⟩
  | txf => exact ⟨b, flags, .txf⟩
  | wait => exact ⟨b, flags, .wait⟩

/-- Settles O25: `PHASE` selects the same operation, and its effect differs in the status bits alone. -/
theorem statusBitsReachNothingElse : Obligations.StatusBitsReachNothingElse := by
  intro s t b flags hstep
  obtain ⟨i, hphase, heffect⟩ := step_effect hstep
  obtain ⟨b', flags', hsame⟩ := heffect.status_irrelevant b flags
  exact ⟨setStatus b' flags' t, (step_of_phase (setStatus b flags s) i hphase).trans hsame.exec_eq_next, rfl⟩

/-! ## The whole next state of `TXF` -/

/-- A stream write puts all of its bytes on `TXSTREAM` on `accept`, and leaves the stream as it is on `drop`. -/
theorem streamWrite_eq (bytes : List Byte) (s : State) : streamWrite bytes s =
    { s with
      txStream := if streamAnswer s = .accept then s.txStream ++ bytes else s.txStream
      inputs := { s.inputs with stream := s.inputs.stream.next }
      calls := s.calls ++ [.streamWrite bytes (streamAnswer s)] } := by
  cases h : streamAnswer s <;> simp [streamWrite, h]

/-- Settles O16: `exec_txf` with the outcome of the write spelled out; the stated bytes are `frameBytes`. -/
theorem txfWritesTheFrameInOrder : Obligations.TxfWritesTheFrameInOrder := by
  intro s
  rw [exec_txf, streamWrite_eq]
  rfl

end Sys2Proof.Machine

/-! PROOFS of the family 45_sample_loop.md: the whole next state of `WAIT`. -/

namespace Sys2Proof.Machine

/-- Settles O17: `exec_wait`; the stated successor is `cycleStart` written out, and `delay` only records its call. -/
theorem waitSuspendsForOnePeriod : Obligations.WaitSuspendsForOnePeriod :=
  ⟨rfl, exec_wait⟩

end Sys2Proof.Machine

/-! PROOFS of the family 'other', tier 3: what an operation does to `BUSLOG` and to `TXSTREAM`, and the two invariants
of the traces. -/

namespace Sys2Proof.Machine

/-- No operation writes a parameter. -/
theorem Effect.config_eq {s t : State} {i : Instr} (h : Effect s i t) : t.config = s.config := by
  cases h <;> simp

/-! ## The shape of `BUSLOG` (41_bus_sequencer.md R108) -/

/-- What a primitive call adds to `BUSLOG` (00_scope.md section 8). -/
def Call.busEvent : Call → Option BusEvent
  | .busInit r => some (.init r)
  | .busWrite a7 bytes _ r => some (.write a7 bytes r)
  | .busRead a7 n _ r => some (.read a7 n r)
  | .buttonLevel _ | .streamWrite _ _ | .delay _ => none

/-- `BUSLOG` grows by the bus events of the calls an operation makes. -/
theorem Effect.busLog_eq {s t : State} {i : Instr} (h : Effect s i t) :
    t.busLog = s.busLog ++ (callsOf s i).filterMap Call.busEvent := by
  cases h <;> simp [callsOf, Call.busEvent]

theorem stageOfPhase_cycleStart (c : Config) : stageOfPhase (cycleStart c) = .idle := by
  rcases cycleStart_cases c with h | h <;> rw [h] <;> decide

/-- A step that logs nothing keeps the shape when its two phases belong to one stage. -/
theorem BusLogShaped.of_same_log {s t : State} (hs : BusLogShaped s) (hconfig : t.config = s.config)
    (hlog : t.busLog = s.busLog) (hstage : stageOfPhase t.phase = stageOfPhase s.phase) : BusLogShaped t := by
  unfold BusLogShaped at hs ⊢
  rw [hconfig, hlog, hs, hstage]

/-- A step that logs one event keeps the shape when the event leads from the stage before it to the stage after it. -/
theorem BusLogShaped.snoc {s t : State} {e : BusEvent} (hs : BusLogShaped s) (hconfig : t.config = s.config)
    (hlog : t.busLog = s.busLog ++ [e])
    (hstage : (stageOfPhase s.phase).after s.config e = some (stageOfPhase t.phase)) : BusLogShaped t := by
  unfold BusLogShaped at hs ⊢
  rw [hconfig, hlog, logStage_snoc, hs, Option.bind_some, hstage]

/-- Settles O48: each bus access is the one that the stage of its phase admits, and the other operations stay in the
stage between two cycles. -/
theorem busLogKeepsItsShape : Obligations.BusLogKeepsItsShape := by
  intro s t hs hstep
  obtain ⟨i, hphase, heffect⟩ := step_effect hstep
  have hconfig := heffect.config_eq
  have hlog := heffect.busLog_eq
  cases heffect with
  | binitOk | binitFail => exact hs.snoc hconfig hlog (by rw [hphase]; rfl)
  | cfgwOk | cfgwFail =>
    refine hs.snoc hconfig hlog ?_
    rw [hphase, setPhase_phase, stageOfPhase_cycleStart]
    exact if_pos ⟨rfl, rfl⟩
  | rselOk h | rselFail h =>
    refine hs.snoc hconfig hlog ?_
    rw [hphase, h]
    exact if_pos ⟨rfl, rfl⟩
  | brdOk | brdFail =>
    refine hs.snoc hconfig hlog ?_
    rw [hphase]
    exact if_pos ⟨rfl, rfl⟩
  | wait => exact hs.of_same_log hconfig rfl (by rw [hphase, setPhase_phase, stageOfPhase_cycleStart]; rfl)
  | txh | poll | enc | txf => exact hs.of_same_log hconfig rfl (by rw [hphase]; rfl)

/-! ## The stream of a folded build (44_serial_tx_framer.md R156) -/

/-- Only `TXH` and `TXF` write the stream. -/
theorem Effect.txStream_eq {s t : State} {i : Instr} (h : Effect s i t) (htxh : i ≠ .txh) (htxf : i ≠ .txf) :
    t.txStream = s.txStream := by
  cases h with
  | txh => exact absurd rfl htxh
  | txf => exact absurd rfl htxf
  | _ => simp

/-- In a folded build no operation leads to the separate header write. -/
theorem successor_ne_txh_of_folded {c : Config} (hfolded : c.headerSplit = false) (selected : Bool) (i : Instr) :
    successor c selected i ≠ Phase.txh := by
  cases i with
  | rsel => cases selected <;> simp [successor]
  | _ => simp [successor, cycleStart, hfolded]

/-- Only `ENC` leads to the frame write. -/
theorem eq_enc_of_successor_eq_txf {c : Config} {selected : Bool} {i : Instr}
    (h : successor c selected i = Phase.txf) : i = .enc := by
  cases i with
  | enc => rfl
  | cfgw | wait => rcases cycleStart_cases c with hc | hc <;> simp [successor, hc] at h
  | rsel => cases selected <;> simp [successor] at h
  | _ => simp [successor] at h

/-- A frame write, accepted or dropped, keeps a stream of whole frames. -/
theorem WholeFrames.append_delivered {header : Byte} {bytes : List Byte} {f : Frame} (h : WholeFrames header bytes)
    (hf : FrameBuilt header f) (r : StreamResult) : WholeFrames header (bytes ++ delivered f.toList r) := by
  cases r with
  | drop => simpa using h
  | accept =>
    obtain ⟨frames, rfl, hframes⟩ := h
    refine ⟨frames ++ [f], by simp, fun g hg => ?_⟩
    rcases List.mem_append.mp hg with hg | hg
    · exact hframes g hg
    · rwa [List.mem_singleton.mp hg]

/-- Settles O50: `TXH` is never next, the frame is built when `TXF` is, and no other operation writes the stream. -/
theorem foldedStreamStaysWholeFrames : Obligations.FoldedStreamStaysWholeFrames := by
  rintro s t ⟨hfolded, hnotxh, hbuilt, hwhole⟩ hstep
  obtain ⟨i, hphase, heffect⟩ := step_effect hstep
  unfold FoldedStream
  rw [heffect.config_eq, heffect.phase_eq_successor]
  refine ⟨hfolded, successor_ne_txh_of_folded hfolded _ i, fun htxf => ?frame, ?stream⟩
  case frame =>
    cases eq_enc_of_successor_eq_txf htxf
    cases heffect
    exact buildFrame_built _ _ _
  case stream =>
    have htxh : i ≠ .txh := fun h => hnotxh (by rw [hphase, h]; rfl)
    by_cases htxf : i = .txf
    · subst htxf
      cases heffect
      have hframe : frameBytes s.config s.frame = s.frame.toList := by simp [frameBytes, hfolded]
      simpa [hframe] using hwhole.append_delivered (hbuilt hphase) (streamAnswer s)
    · rwa [heffect.txStream_eq htxh htxf]

end Sys2Proof.Machine

/-! PROOFS of the family 'other': the encoding of a run, the selection of a step, and the laws of `esc`. -/

namespace Sys2Proof.Machine

/-! ## Codes and runs of operations (30_encoding.md R80, R84) -/

/-- Settles O1: each code, and each of the three table words, is decoded by its own row. -/
theorem operationCodesSelectTheirOperations : Obligations.OperationCodesSelectTheirOperations := by
  refine ⟨rfl, rfl, rfl, rfl, rfl, rfl, rfl, rfl, rfl, ?_, ?_, ?_⟩ <;> decide

/-- A run decodes from a first code and the rest exactly when the code selects its first operation and the rest decode
to the others. -/
theorem decodeRun_cons_eq_some {c : PhaseCode} {cs : List PhaseCode} {run : List Instr} :
    decodeRun (c :: cs) = some run ↔ ∃ i is, decode c = .instr i ∧ decodeRun cs = some is ∧ run = i :: is := by
  rw [decodeRun]
  cases decode c <;> cases decodeRun cs <;> simp [eq_comm]

/-- Settles O2: by induction on the run, and on the codes, with `decode` and `encode` inverse on one code. -/
theorem runEncodingDecodesBackToTheRun : Obligations.RunEncodingDecodesBackToTheRun := by
  refine ⟨fun run => ?decodes, fun codes => ?encodes⟩
  case decodes =>
    induction run with
    | nil => rfl
    | cons i run ih => exact decodeRun_cons_eq_some.mpr ⟨i, run, decode_encode i, ih, rfl⟩
  case encodes =>
    induction codes with
    | nil =>
      intro run h
      cases h
      rfl
    | cons c cs ih =>
      intro run h
      obtain ⟨i, is, hi, his, rfl⟩ := decodeRun_cons_eq_some.mp h
      rw [encodeRun, List.map_cons, encode_of_decode c i hi, ← encodeRun, ih is his]

/-- A table word that the decoder accepts is the code of the operation it stands for. -/
theorem phaseOfWord_of_decodeTableWord {nbits w : Nat} {i : Instr} (h : decodeTableWord nbits w = some i) :
    phaseOfWord nbits w = encode i := by
  unfold decodeTableWord at h
  cases hd : decode (phaseOfWord nbits w) with
  | instr j =>
    rw [hd] at h
    cases h
    exact (encode_of_decode _ _ hd).symm
  | reservedCode c =>
    rw [hd] at h
    cases h

/-- Settles O3: both clauses are `step_of_phase`, for the code in `PHASE` and for the code of the word. -/
theorem stepRunsTheSelectedOperation : Obligations.StepRunsTheSelectedOperation :=
  ⟨fun s i _ hi => step_of_phase s i (encode_of_decode _ _ hi).symm,
    fun s nbits w i hi => step_of_phase (s.withFetchWord nbits w) i (phaseOfWord_of_decodeTableWord hi)⟩

/-- Settles O4: a reserved code selects nothing, and a legal one selects an operation, which answers a next state. -/
theorem exactlyTheReservedCodesHaveNoStep : Obligations.ExactlyTheReservedCodesHaveNoStep := by
  refine ⟨fun s hreserved => ?reserved, fun s hlegal => ?legal⟩
  case reserved => rw [step, decode_reserved s.phase hreserved]
  case legal =>
    obtain ⟨i, hi⟩ := decode_legal s.phase hlegal
    rw [step_of_phase s i (encode_of_decode _ _ hi).symm]
    exact exec_next i s

/-! ## The laws of `esc` (42_frame_encoder.md R122) -/

/-- Two bytes are merged exactly when they are equal, or are the header and its successor. -/
theorem esc_eq_esc_iff (header v w : Byte) : esc header v = esc header w ↔
    v = w ∨ (v = header ∧ w = header + 1#8) ∨ (v = header + 1#8 ∧ w = header) := by
  by_cases hv : v = header <;> by_cases hw : w = header
  · simp [hv, hw]
  · rw [hv, esc_header, esc_of_ne hw]
    simp [Ne.symm hw, hw, eq_comm]
  · rw [hw, esc_header, esc_of_ne hv]
    simp [hv]
  · rw [esc_of_ne hv, esc_of_ne hw]
    simp [hv, hw]

/-- Every byte but the header is its own adjustment, so the image is everything but the header. -/
theorem image_esc (header : Byte) :
    Finset.univ.image (fun k : Fin 256 => esc header (BitVec.ofFin k)) =
      (Finset.univ.erase header.toFin).image (fun k : Fin 256 => BitVec.ofFin k) := by
  ext v
  simp only [Finset.mem_image, Finset.mem_univ, true_and, Finset.mem_erase, and_true]
  constructor
  · rintro ⟨k, rfl⟩
    exact ⟨(esc header (BitVec.ofFin k)).toFin,
      fun h => esc_ne_header header (BitVec.ofFin k) (BitVec.eq_of_toFin_eq h), rfl⟩
  · rintro ⟨k, hk, rfl⟩
    exact ⟨k, esc_of_ne fun h => hk (by rw [← h])⟩

theorem card_image_esc (header : Byte) :
    (Finset.univ.image (fun k : Fin 256 => esc header (BitVec.ofFin k))).card = 255 := by
  have hinj : Function.Injective (fun k : Fin 256 => (BitVec.ofFin k : Byte)) := fun _ _ h => BitVec.ofFin.inj h
  rw [image_esc, Finset.card_image_of_injective _ hinj, Finset.card_erase_of_mem (Finset.mem_univ _),
    Finset.card_fin]

/-- The adjusted byte is below the byte exactly where the header 0xFF wraps. -/
theorem toNat_esc_lt_iff (header v : Byte) : (esc header v).toNat < v.toNat ↔ v = header ∧ header = 0xFF#8 := by
  have hv : v.toNat < 256 := v.isLt
  rw [toNat_esc, ← BitVec.toNat_inj, ← BitVec.toNat_inj (x := header)]
  simp only [BitVec.toNat_ofNat]
  split <;> omega

/-- Settles O19: the laws are the lemmas above; idempotence is `esc_of_ne` at an adjusted byte. -/
theorem escapeLawsForEveryHeader : Obligations.EscapeLawsForEveryHeader := fun header =>
  ⟨esc_ne_header header, fun v => esc_of_ne (esc_ne_header header v), esc_eq_esc_iff header, card_image_esc header,
    toNat_esc_lt_iff header⟩

end Sys2Proof.Machine

/-! PROOFS of the family 'other': what an operation leaves unchanged, the growth of the traces, and the invariants that
every step keeps. -/

namespace Sys2Proof.Machine

/-! ## The frame of an operation (10_state.md R20) -/

section
variable {s t : State} {i : Instr}

theorem Effect.busInit_feed_eq (h : Effect s i t) (hi : i ≠ .binit) : t.inputs.busInit = s.inputs.busInit := by
  cases h with
  | binitOk | binitFail => exact absurd rfl hi
  | _ => simp

theorem Effect.busWrite_feed_eq (h : Effect s i t) (hcfgw : i ≠ .cfgw) (hrsel : i ≠ .rsel) :
    t.inputs.busWrite = s.inputs.busWrite := by
  cases h with
  | cfgwOk | cfgwFail => exact absurd rfl hcfgw
  | rselOk | rselFail => exact absurd rfl hrsel
  | _ => simp

theorem Effect.busRead_feed_eq (h : Effect s i t) (hi : i ≠ .brd) : t.inputs.busRead = s.inputs.busRead := by
  cases h with
  | brdOk | brdFail => exact absurd rfl hi
  | _ => simp

/-- Only the two operations of `read_motion()` write its registers, or draw for a failed read. -/
theorem Effect.motion_eq (h : Effect s i t) (hrsel : i ≠ .rsel) (hbrd : i ≠ .brd) :
    t.motion = s.motion ∧ t.rdOk = s.rdOk ∧ t.inputs.fill = s.inputs.fill := by
  cases h with
  | rselOk | rselFail => exact absurd rfl hrsel
  | brdOk | brdFail => exact absurd rfl hbrd
  | binitOk | binitFail | cfgwOk | cfgwFail | txh | poll | enc | txf | wait => simp

theorem Effect.frame_eq (h : Effect s i t) (hi : i ≠ .enc) : t.frame = s.frame := by
  cases h with
  | enc => exact absurd rfl hi
  | _ => simp

theorem Effect.trigger_eq (h : Effect s i t) (hi : i ≠ .poll) :
    t.trigPrev = s.trigPrev ∧ t.trigOut = s.trigOut ∧ t.inputs.button = s.inputs.button := by
  cases h with
  | poll => exact absurd rfl hi
  | _ => simp

/-- An operation that is no bus access raises no error, logs no bus event and does not reach the sensor. -/
theorem Effect.bus_untouched (h : Effect s i t) (hbinit : i ≠ .binit) (hcfgw : i ≠ .cfgw) (hrsel : i ≠ .rsel)
    (hbrd : i ≠ .brd) :
    t.errFlags = s.errFlags ∧ t.errLog = s.errLog ∧ t.busLog = s.busLog ∧ t.bench = s.bench := by
  cases h with
  | binitOk | binitFail => exact absurd rfl hbinit
  | cfgwOk | cfgwFail => exact absurd rfl hcfgw
  | rselOk | rselFail => exact absurd rfl hrsel
  | brdOk | brdFail => exact absurd rfl hbrd
  | txh | poll | enc | txf | wait => simp

theorem Effect.stream_feed_eq (h : Effect s i t) (htxh : i ≠ .txh) (htxf : i ≠ .txf) :
    t.inputs.stream = s.inputs.stream := by
  cases h with
  | txh => exact absurd rfl htxh
  | txf => exact absurd rfl htxf
  | _ => simp

/-- The sensor after an operation: a write of `CFGW` or `RSEL`, a read of `BRD`, or as it was. -/
theorem Effect.bench_cases (h : Effect s i t) :
    (i = .cfgw ∧ t.bench = benchAfterWrite (cfgBytes s.config) s) ∨
    (i = .rsel ∧ t.bench = benchAfterWrite (selectBytes s.config) s) ∨
    (i = .brd ∧ t.bench = benchAfterRead s) ∨ t.bench = s.bench := by
  cases h <;> simp
end

/-- A select moves the sensor's pointer and changes no register (20_memory.md R54). -/
@[simp] theorem benchRead_benchAfterWrite_select (s : State) (a : Nat) :
    benchRead (benchAfterWrite (selectBytes s.config) s) a = benchRead s.bench a := by
  unfold benchAfterWrite
  cases s.bench <;> simp [benchRead, selectBytes]

/-- A burst read changes no register (20_memory.md R55). -/
@[simp] theorem benchRead_benchAfterRead (s : State) (a : Nat) :
    benchRead (benchAfterRead s) a = benchRead s.bench a := by
  unfold benchAfterRead
  cases s.bench <;> simp [benchRead]

/-- The configuration write changes no register but `CFG0` (20_memory.md R54). -/
theorem benchRead_benchAfterWrite_cfg (s : State) {a : Nat} (ha : a ≠ s.config.cfg0.toNat) :
    benchRead (benchAfterWrite (cfgBytes s.config) s) a = benchRead s.bench a := by
  unfold benchAfterWrite
  cases s.bench with
  | none => rfl
  | some d => simp [benchRead, cfgBytes, RefSensor.afterWrite_two_read _ _ _ _ _ _ ha]

/-- An operation changes no register of the sensor, but that `CFGW` may change `CFG0`. -/
theorem Effect.benchRead_eq {s t : State} {i : Instr} (h : Effect s i t) {a : Nat}
    (ha : i = .cfgw → a ≠ s.config.cfg0.toNat) : benchRead t.bench a = benchRead s.bench a := by
  rcases h.bench_cases with ⟨hi, hb⟩ | ⟨-, hb⟩ | ⟨-, hb⟩ | hb <;> rw [hb]
  · exact benchRead_benchAfterWrite_cfg s (ha hi)
  · exact benchRead_benchAfterWrite_select s a
  · exact benchRead_benchAfterRead s a

/-- Settles O23: one lemma for each item of state. -/
theorem eachOperationWritesOnlyItsOwnState : Obligations.EachOperationWritesOnlyItsOwnState := by
  intro i s t hexec
  have h := exec_effect hexec
  exact ⟨h.config_eq, h.busInit_feed_eq, h.busWrite_feed_eq, h.busRead_feed_eq, h.motion_eq, h.frame_eq, h.trigger_eq,
    h.bus_untouched, fun htxh htxf => ⟨h.txStream_eq htxh htxf, h.stream_feed_eq htxh htxf⟩,
    fun hi _ => h.benchRead_eq fun hcfgw => absurd hcfgw hi, fun _ _ ha => h.benchRead_eq fun _ => ha⟩

/-! ## Errors (60_exceptions.md section 2) -/

/-- An operation raises no error, or raises one: its bit and its event together. -/
theorem Effect.error_cases {s t : State} {i : Instr} (h : Effect s i t) :
    (t.errFlags = s.errFlags ∧ t.errLog = s.errLog) ∨
    ∃ e, t.errFlags = setErrFlag s.errFlags e ∧ t.errLog = s.errLog ++ [e] := by
  cases h with
  | binitFail | cfgwFail | rselFail | brdFail => exact .inr ⟨_, by simp; rfl, by simp⟩
  | _ => exact .inl ⟨rfl, rfl⟩

theorem BusError.code_lt (e : BusError) : e.code < 4 := by
  rcases e with _ | (_ | _ | _) <;> decide

/-- The bit of an error is its own. -/
theorem BusError.code_inj {e e' : BusError} : e.code = e'.code ↔ e = e' := by
  rcases e with _ | (_ | _ | _) <;> rcases e' with _ | (_ | _ | _) <;> decide

/-- Setting the bit of an error sets that bit and no other. -/
theorem getLsbD_setErrFlag (flags : BitVec 4) (e : BusError) (k : Nat) :
    (setErrFlag flags e).getLsbD k = (flags.getLsbD k || decide (k = e.code)) := by
  have hcode := e.code_lt
  rw [setErrFlag, BitVec.getLsbD_or, BitVec.getLsbD_shiftLeft, BitVec.getLsbD_one]
  congr 1
  rw [Bool.eq_iff_iff]
  simp
  omega

/-- Settles O28: the bit is `getLsbD_setErrFlag`; the event is `raise` itself. -/
theorem raisingSetsOneBitAndLogsOneEvent : Obligations.RaisingSetsOneBitAndLogsOneEvent :=
  ⟨fun e s => ⟨rfl, fun k _ => getLsbD_setErrFlag s.errFlags e k⟩, rfl, rfl, rfl, rfl⟩

/-- Settles O29: a raised error adds its own bit to those set, and its event to the log. -/
theorem errorFlagsAreSticky : Obligations.ErrorFlagsAreSticky := by
  intro s t k hstep
  obtain ⟨i, -, heffect⟩ := step_effect hstep
  rcases heffect.error_cases with ⟨hflags, -⟩ | ⟨e, hflags, hlog⟩ <;> rw [hflags]
  · exact ⟨id, fun h => absurd rfl h⟩
  · rw [getLsbD_setErrFlag]
    refine ⟨fun h => by simp [h], fun hchanged => ⟨e, ?_, hlog⟩⟩
    by_contra hne
    exact hchanged (by simp [Ne.symm hne])

/-- Settles O30: the bit and the event of an error come together. -/
theorem errorFlagsMirrorTheErrorLog : Obligations.ErrorFlagsMirrorTheErrorLog := by
  intro s t hs hstep e
  obtain ⟨i, -, heffect⟩ := step_effect hstep
  rcases heffect.error_cases with ⟨hflags, hlog⟩ | ⟨e', hflags, hlog⟩ <;> rw [hflags, hlog]
  · exact hs e
  · rw [getLsbD_setErrFlag, Bool.or_eq_true, hs e, decide_eq_true_iff, BusError.code_inj, List.mem_append,
      List.mem_singleton]

/-! The error each format of a bus event stands for (60_exceptions.md R187 to R190). -/

@[simp] theorem BusEvent.error_init (r : BusResult) :
    (BusEvent.init r).error = if r = .fail then some .busConfigError else none := by cases r <;> rfl
@[simp] theorem BusEvent.error_write_cfgBytes (a7 : BusAddr) (c : Config) (r : BusResult) :
    (BusEvent.write a7 (cfgBytes c) r).error = if r = .fail then some (.busTransferError .cfgw) else none := by
  cases r <;> rfl
@[simp] theorem BusEvent.error_write_selectBytes (a7 : BusAddr) (c : Config) (r : BusResult) :
    (BusEvent.write a7 (selectBytes c) r).error = if r = .fail then some (.busTransferError .rsel) else none := by
  cases r <;> rfl
@[simp] theorem BusEvent.error_read (a7 : BusAddr) (n : Nat) (r : ReadResult) :
    (BusEvent.read a7 n r).error = if r = .fail then some (.busTransferError .brd) else none := by cases r <;> rfl

/-- `ERRLOG` grows by the failures among the bus events of the calls an operation makes. -/
theorem Effect.errLog_eq {s t : State} {i : Instr} (h : Effect s i t) :
    t.errLog = s.errLog ++ ((callsOf s i).filterMap Call.busEvent).filterMap BusEvent.error := by
  cases h with
  | binitOk h | binitFail h | cfgwOk h | cfgwFail h | rselOk h | rselFail h | brdOk _ h | brdFail h =>
    simp [callsOf, Call.busEvent, h]
  | txh | poll | enc | txf | wait => simp [callsOf, Call.busEvent]

/-- Settles O31: an operation adds to `ERRLOG` exactly the failures among what it adds to `BUSLOG`. -/
theorem errorLogIsTheFailuresOfTheBusLog : Obligations.ErrorLogIsTheFailuresOfTheBusLog := by
  intro s t hs hstep
  obtain ⟨i, -, heffect⟩ := step_effect hstep
  unfold ErrLogIsBusFailures at hs ⊢
  rw [heffect.errLog_eq, heffect.busLog_eq, hs, List.filterMap_append]

/-! ## The growth of the traces (00_scope.md section 8) -/

/-- An operation makes at most one primitive call (45_sample_loop.md R174). -/
theorem length_callsOf_le (s : State) (i : Instr) : (callsOf s i).length ≤ 1 := by
  cases i <;> simp [callsOf]

/-- Settles O26: the bus events and the errors of a step are among its calls, of which there is at most one. -/
theorem tracesGrowByAtMostOneEvent : Obligations.TracesGrowByAtMostOneEvent := by
  intro s t hstep
  obtain ⟨i, -, heffect⟩ := step_effect hstep
  have hcalls : (callsOf s i).length ≤ 1 := length_callsOf_le s i
  have hbus : ((callsOf s i).filterMap Call.busEvent).length ≤ 1 := (List.length_filterMap_le _ _).trans hcalls
  obtain ⟨new, -, hstream⟩ := heffect.calls_and_txStream_grow
  exact ⟨⟨_, hbus, heffect.busLog_eq⟩, ⟨_, hstream⟩,
    ⟨_, (List.length_filterMap_le _ _).trans hbus, heffect.errLog_eq⟩, ⟨_, hcalls, heffect.calls_eq⟩⟩

/-! ## The successor table (45_sample_loop.md R165) -/

/-- Settles O32: every operation answers a next state, and its phase is `Effect.phase_eq_successor`. -/
theorem everySuccessorIsTheTables : Obligations.EverySuccessorIsTheTables := by
  intro i s
  obtain ⟨t, hexec⟩ := exec_next i s
  exact ⟨t, hexec, (exec_effect hexec).phase_eq_successor⟩

/-- The table leads to an operation: its phase is the code of one. -/
theorem successor_eq_encode (c : Config) (selected : Bool) (i : Instr) : ∃ j, successor c selected i = encode j := by
  cases i with
  | cfgw | wait =>
    rcases cycleStart_cases c with h | h
    · exact ⟨.txh, h⟩
    · exact ⟨.rsel, h⟩
  | rsel =>
    cases selected
    · exact ⟨.poll, rfl⟩
    · exact ⟨.brd, rfl⟩
  | binit => exact ⟨.cfgw, rfl⟩
  | txh => exact ⟨.rsel, rfl⟩
  | brd => exact ⟨.poll, rfl⟩
  | poll => exact ⟨.enc, rfl⟩
  | enc => exact ⟨.txf, rfl⟩
  | txf => exact ⟨.wait, rfl⟩

theorem toNat_encode_le (i : Instr) : (encode i).toNat ≤ 8 := by
  cases i <;> decide

/-- Settles O33: a step leads to the code of an operation, and each of those is legal. -/
theorem stepsKeepPhaseLegal : Obligations.StepsKeepPhaseLegal := by
  intro s t _ hstep
  obtain ⟨i, -, heffect⟩ := step_effect hstep
  obtain ⟨j, hj⟩ := successor_eq_encode s.config (decide (busWriteAnswer (selectBytes s.config) s = .ok)) i
  rw [legalPhase, heffect.phase_eq_successor, hj]
  exact decide_eq_true (toNat_encode_le j)

/-! ## Invariants of the registers (10_state.md R33, R34) and of the sensor (20_memory.md section 6) -/

/-- A pulse of `POLL` comes with the pressed level. -/
theorem pressed_of_pressEdge {pressed prev : Bit} (h : pressEdge pressed prev = 1#1) : pressed = 1#1 := by
  revert h; revert pressed prev; decide

/-- Settles O46: `POLL` writes both bits so, and no other operation writes either. -/
theorem pulseImpliesPressedIsKept : Obligations.PulseImpliesPressedIsKept := by
  intro s t hs hstep
  obtain ⟨i, -, heffect⟩ := step_effect hstep
  by_cases hi : i = .poll
  · subst hi
    cases heffect
    exact pressed_of_pressEdge
  · obtain ⟨hprev, hout, -⟩ := heffect.trigger_eq hi
    unfold PulseWhilePressed
    rwa [hprev, hout]

/-- Settles O47: `ENC` builds the frame afresh, and no other operation writes it. -/
theorem frameInvariantFromTheFirstEncOn : Obligations.FrameInvariantFromTheFirstEncOn := by
  refine ⟨fun s => ⟨_, exec_enc s, buildFrame_built _ _ _⟩, fun s t hs hstep => ?keeps⟩
  obtain ⟨i, -, heffect⟩ := step_effect hstep
  by_cases hi : i = .enc
  · subst hi
    cases heffect
    exact buildFrame_built _ _ _
  · rwa [heffect.config_eq, heffect.frame_eq hi]

theorem benchWf_benchAfterWrite {s : State} (bytes : List Byte) (h : benchWf s.bench = true) :
    benchWf (benchAfterWrite bytes s) = true := by
  unfold benchAfterWrite
  cases hb : s.bench with
  | none => rfl
  | some d =>
    rw [hb] at h
    exact d.afterWrite_wf _ _ _ h

theorem benchWf_benchAfterRead {s : State} (h : benchWf s.bench = true) : benchWf (benchAfterRead s) = true := by
  unfold benchAfterRead
  cases hb : s.bench with
  | none => rfl
  | some d =>
    rw [hb] at h
    simpa [benchWf] using h

/-- Settles O53: a write and a read of the sensor keep its registers canonical, and nothing else reaches them. -/
theorem stepsKeepTheSensorMemoryCanonical : Obligations.StepsKeepTheSensorMemoryCanonical := by
  intro s t hs hstep
  obtain ⟨i, -, heffect⟩ := step_effect hstep
  unfold memoryWf at hs ⊢
  rcases heffect.bench_cases with ⟨-, hb⟩ | ⟨-, hb⟩ | ⟨-, hb⟩ | hb <;> rw [hb]
  · exact benchWf_benchAfterWrite _ hs
  · exact benchWf_benchAfterWrite _ hs
  · exact benchWf_benchAfterRead hs
  · exact hs

/-- Settles O52: with empty traces and all bits 0 each invariant is met; no frame write is next, and the empty stream
is no frames. -/
theorem resetMeetsEveryInvariant : Obligations.ResetMeetsEveryInvariant := by
  have hfolded (c : Config) (hc : c.headerSplit = false) : FoldedStream (State.resetWith c) :=
    ⟨hc, (by decide : Phase.binit ≠ Phase.txh), fun h => absurd h (by decide : Phase.binit ≠ Phase.txf),
      [], rfl, by simp⟩
  refine ⟨fun c => ⟨rfl, rfl, fun e => ?flags, rfl, fun h => ?pulse, rfl, rfl, hfolded c⟩, hfolded _ rfl⟩
  case flags => simp [State.resetWith]
  case pulse => exact absurd h (by decide : 0#1 ≠ 1#1)

end Sys2Proof.Machine

/-! PROOFS of the family 'other': reset, the answers, the whole next states of `BINIT`, `TXH`, `RSEL` and `POLL`, the
reference sensor, and the ports. -/

namespace Sys2Proof.Machine

/-! ## Reset and the answers -/

/-- Settles O5: the reset state and the default parameters are written out in the model; `PERIOD_MS` is positive as one
more than a free value. -/
theorem resetLeavesEveryRegisterAtItsResetValue : Obligations.ResetLeavesEveryRegisterAtItsResetValue := by
  refine ⟨fun _ => rfl, rfl, rfl, rfl, rfl, rfl, rfl, ?wf⟩
  simp [State.reset, State.resetWith, Config.standard, Config.wf]

/-- A feed with a pending answer gives it, and keeps the others. -/
theorem Feed.answer_next_of_pending {α : Type} {f : Feed α} {r : α} {rest : List α} (free : Nat → α)
    (h : f.pending = r :: rest) : f.answer free = r ∧ f.next.pending = rest := by
  simp [Feed.answer, Feed.next, h]

section
variable {s : State}

theorem busWriteAnswer_of_unbound (h : s.bench = none) (bytes : List Byte) :
    busWriteAnswer bytes s = s.inputs.busWrite.answer Config.freeBusWrite := by rw [busWriteAnswer, h]

theorem busReadAnswer_of_unbound (h : s.bench = none) :
    busReadAnswer s = s.inputs.busRead.answer Config.freeBusRead := by rw [busReadAnswer, h]

theorem inputsAfterWrite_of_unbound (h : s.bench = none) :
    inputsAfterWrite s = { s.inputs with busWrite := s.inputs.busWrite.next } := by rw [inputsAfterWrite, h]

theorem inputsAfterRead_of_unbound (h : s.bench = none) :
    inputsAfterRead s = { s.inputs with busRead := s.inputs.busRead.next } := by rw [inputsAfterRead, h]

theorem failMotion_of_hold (h : s.config.failPolicy = .hold) : failMotion s = s := by rw [failMotion, h]

theorem failMotion_of_zero (h : s.config.failPolicy = .zero) : failMotion s = setMotion zeroSample s := by
  rw [failMotion, h]

theorem failMotion_of_draw (h : s.config.failPolicy = .draw) : failMotion s =
    setMotion (fillAnswer s) { s with inputs := { s.inputs with fill := s.inputs.fill.next } } := by
  rw [failMotion, h]
end

/-- Settles O6: each primitive takes its answer from its own feed. -/
theorem pendingAnswersAreGivenInOrder : Obligations.PendingAnswersAreGivenInOrder := by
  refine ⟨fun s r rest h => ?init, fun s bytes r rest hb h => ?write, fun s r rest hb h => ?read,
    fun s raw rest h => ?button, fun s bytes r rest h => ?stream, fun s m rest hdraw h => ?fill⟩
  case init => exact Feed.answer_next_of_pending _ h
  case write =>
    rw [busWriteAnswer_of_unbound hb, busWrite_inputs, inputsAfterWrite_of_unbound hb]
    exact Feed.answer_next_of_pending _ h
  case read =>
    rw [busReadAnswer_of_unbound hb, busRead_inputs, inputsAfterRead_of_unbound hb]
    exact Feed.answer_next_of_pending _ h
  case button => exact Feed.answer_next_of_pending _ h
  case stream => exact Feed.answer_next_of_pending _ h
  case fill =>
    rw [failMotion_of_draw hdraw]
    exact Feed.answer_next_of_pending _ h

/-- Settles O12: one case of `failMotion` for each policy. -/
theorem failurePolicyDecidesTheMotionRegisters : Obligations.FailurePolicyDecidesTheMotionRegisters :=
  ⟨fun _ => failMotion_of_hold, fun _ => failMotion_of_zero, fun _ => failMotion_of_draw⟩

/-! ## Whole next states -/

/-- Settles O7: `exec_binit` with the outcome recorded. -/
theorem binitRecordsTheAnswerAndGoesToCfgw : Obligations.BinitRecordsTheAnswerAndGoesToCfgw := by
  intro s
  rw [exec_binit, raiseOnFail_eq]
  rfl

/-- Settles O9: `exec_txh` with the outcome of the write spelled out. -/
theorem txhWritesTheHeaderAlone : Obligations.TxhWritesTheHeaderAlone := by
  intro s
  rw [exec_txh, streamWrite_eq]
  rfl

/-- A bus write whose answer is known. -/
theorem busWrite_of_answer {s : State} {bytes : List Byte} {r : BusResult} (h : busWriteAnswer bytes s = r) :
    busWrite bytes s = { s with
      inputs := inputsAfterWrite s
      bench := benchAfterWrite bytes s
      busLog := s.busLog ++ [.write s.config.devAddr bytes r]
      calls := s.calls ++ [.busWrite s.config.devAddr bytes s.config.busTimeoutMs r] } := by
  subst h
  rfl

/-- Settles O10: each outcome of the select is `exec_rsel` at that answer. -/
theorem rselSelectsOrSkipsTheBurstRead : Obligations.RselSelectsOrSkipsTheBurstRead := by
  refine fun s => ⟨fun hok => ?ok, fun hfail => ?fail⟩
  case ok =>
    rw [exec_rsel, selectBytes, hok, busWrite_of_answer hok]
    rfl
  case fail =>
    rw [exec_rsel, selectBytes, hfail, busWrite_of_answer hfail]
    rfl

/-- The press edge in the four rows of the table (43_edge_detector.md R138): the bits after a poll of a level. -/
theorem poll_truthTable (prev raw : Bit) :
    (prev = 0#1 → raw = 1#1 → pressEdge (pressedOf raw) prev = 0#1 ∧ pressedOf raw = 0#1) ∧
    (prev = 0#1 → raw = 0#1 → pressEdge (pressedOf raw) prev = 1#1 ∧ pressedOf raw = 1#1) ∧
    (prev = 1#1 → raw = 0#1 → pressEdge (pressedOf raw) prev = 0#1 ∧ pressedOf raw = 1#1) ∧
    (prev = 1#1 → raw = 1#1 → pressEdge (pressedOf raw) prev = 0#1 ∧ pressedOf raw = 0#1) := by
  revert prev raw; decide

/-- Settles O14: `POLL` leaves `pressEdge` and `pressedOf` of the pending level. -/
theorem pollFollowsItsTruthTable : Obligations.PollFollowsItsTruthTable := by
  intro s raw rest h
  have hraw : buttonAnswer s = raw := (Feed.answer_next_of_pending _ h).1
  refine ⟨_, exec_poll s, ?_⟩
  simp only [setPhase_trigOut, setPhase_trigPrev, setTrigger_trigOut, setTrigger_trigPrev, hraw]
  exact poll_truthTable s.trigPrev raw

/-! ## The ports (10_state.md R35) -/

/-- Each operation's ports carry every call it makes; a write has fewer bytes than its length port can count. -/
theorem portsCarry_of_mem_callsOf {s : State} {i : Instr} (hphase : s.phase = encode i) {c : Call}
    (h : c ∈ callsOf s i) : portsCarry (portsOut s) c := by
  have hframe : (frameBytes s.config s.frame).length < 2 ^ 4 := by
    unfold frameBytes
    split <;> simp [Frame.body, Frame.toList]
  have hdecode : decode s.phase = .instr i := by rw [hphase, decode_encode]
  unfold portsOut
  rw [hdecode]
  cases i with
  | enc => cases h
  | txf =>
    obtain rfl := List.mem_singleton.mp h
    exact ⟨rfl, rfl, congrArg some (Nat.mod_eq_of_lt hframe)⟩
  | binit | cfgw | txh | rsel | brd | poll | wait =>
    obtain rfl := List.mem_singleton.mp h
    simp [portsCarry, busWritePorts, streamWritePorts, idlePorts, cfgBytes, selectBytes, headerBytes, burstLength]

/-- Settles O57: the new call of a step is one of its operation's. -/
theorem portsCarryTheRequestOfTheOperation : Obligations.PortsCarryTheRequestOfTheOperation := by
  intro s t c hstep hcall
  obtain ⟨i, hphase, heffect⟩ := step_effect hstep
  have hnew : callsOf s i = [c] := List.append_cancel_left (heffect.calls_eq.symm.trans hcall)
  exact portsCarry_of_mem_callsOf hphase (by rw [hnew]; exact List.mem_singleton_self c)

/-- A byte lane of the read data: byte `k` of the number that the lanes spell. -/
theorem extractLsb'_ofNat_eq {n k : Nat} {b : Byte} (hk : k + 8 ≤ 48) (h : n / 2 ^ k % 2 ^ 8 = b.toNat) :
    (BitVec.ofNat 48 n).extractLsb' k 8 = b := by
  apply BitVec.eq_of_toNat_eq
  rw [BitVec.extractLsb'_toNat, BitVec.toNat_ofNat, Nat.shiftRight_eq_div_pow, ← h]
  obtain ⟨d, hd⟩ : ∃ d, 48 = k + (8 + d) := ⟨40 - k, by omega⟩
  rw [hd, Nat.pow_add, Nat.mod_mul_right_div_self, Nat.pow_add, Nat.mod_mul_right_mod]

/-- Settles O56: each lane of a read is its byte; the other ports are one bit. -/
theorem inputPortsCarryTheAnswers : Obligations.InputPortsCarryTheAnswers := by
  refine ⟨fun b => ?read, fun _ => rfl, rfl, rfl, rfl, rfl⟩
  have h0 := b.b0.isLt
  have h1 := b.b1.isLt
  have h2 := b.b2.isLt
  have h3 := b.b3.isLt
  have h4 := b.b4.isLt
  have h5 := b.b5.isLt
  simp only [readResultOfPorts, lanesValue, sampleBytes, if_true]
  congr 2
  all_goals exact extractLsb'_ofNat_eq (by norm_num) (by omega)

end Sys2Proof.Machine

/-! PROOFS of the family 'other': `read_motion()`, the memory primitives, and the reference sensor. -/

namespace Sys2Proof.Machine

/-! ## What `read_motion()` can do (41_bus_sequencer.md R100) -/

/-- The state between a good select and its burst read. -/
def selected (s : State) : State := setPhase Phase.brd (busWrite (selectBytes s.config) s)

/-- The next states of `read_motion()`: a failed select alone, or a good select and whatever the burst read does. -/
inductive ReadMotionEffect (s : State) : State → Prop where
  | selectFail (h : busWriteAnswer (selectBytes s.config) s = .fail) :
    ReadMotionEffect s (setPhase Phase.poll (failRead .rsel (busWrite (selectBytes s.config) s)))
  | burst {t : State} (h : busWriteAnswer (selectBytes s.config) s = .ok) (hbrd : Effect (selected s) .brd t) :
    ReadMotionEffect s t

/-- `read_motion()` always answers a next state, and this is its inversion. -/
theorem readMotion_effect (s : State) : ∃ t, readMotion s = .next t ∧ ReadMotionEffect s t := by
  cases h : busWriteAnswer (selectBytes s.config) s with
  | ok =>
    obtain ⟨t, hbrd⟩ := exec_next .brd (selected s)
    exact ⟨t, (readMotion_of_ok s h).trans hbrd, .burst h (exec_effect hbrd)⟩
  | fail => exact ⟨_, readMotion_of_fail s h, .selectFail h⟩

/-- The answer to a burst read does not depend on `PHASE`. -/
@[simp] theorem busReadAnswer_setPhase (p : PhaseCode) (s : State) :
    busReadAnswer (setPhase p s) = busReadAnswer s := rfl

/-- What `read_motion()` leaves unchanged, and where it leads. -/
theorem ReadMotionEffect.untouched {s t : State} (h : ReadMotionEffect s t) :
    t.phase = Phase.poll ∧ t.config = s.config ∧ t.trigPrev = s.trigPrev ∧ t.txStream = s.txStream ∧
    t.inputs.button = s.inputs.button ∧ t.inputs.stream = s.inputs.stream := by
  cases h with
  | selectFail => simp
  | burst _ hbrd => cases hbrd <;> simp [selected]

/-- `read_motion()` raises at most one error, at the access that failed (41_bus_sequencer.md R110). -/
theorem ReadMotionEffect.errLog_cases {s t : State} (h : ReadMotionEffect s t) :
    t.errLog = s.errLog ∨ t.errLog = s.errLog ++ [.busTransferError .rsel] ∨
    t.errLog = s.errLog ++ [.busTransferError .brd] := by
  cases h with
  | selectFail => simp
  | burst _ hbrd => cases hbrd <;> simp [selected]

/-- Settles O39: the three next states of `readMotion_effect`; a failed access has its bit set by `setErrFlag`. -/
theorem readMotionFailsExactlyWhenABusAccessFails : Obligations.ReadMotionFailsExactlyWhenABusAccessFails := by
  intro s select burst
  obtain ⟨t, hrun, heffect⟩ := readMotion_effect s
  refine ⟨t, hrun, ?_⟩
  cases heffect with
  | selectFail h =>
    have hselect : busWriteAnswer [s.config.regFirst] s = .fail := h
    simp [select, hselect, selectBytes, getLsbD_setErrFlag, BusError.code]
  | burst h hbrd =>
    have hselect : busWriteAnswer [s.config.regFirst] s = .ok := h
    cases hbrd with
    | brdOk b hread =>
      have hburst : busReadAnswer (busWrite [s.config.regFirst] s) = .ok b := hread
      simp [select, burst, hselect, hburst, selectBytes, selected, burstLength]
    | brdFail hread =>
      have hburst : busReadAnswer (busWrite [s.config.regFirst] s) = .fail := hread
      simp [select, burst, hselect, hburst, selectBytes, selected, burstLength, getLsbD_setErrFlag, BusError.code]

/-! ## The memory primitives (00_scope.md R19) -/

/-- Settles O55: `CFGW` and the pair of a good select and its burst read make the same bus accesses as the
primitives. -/
theorem sensorAccessesAreTheMemoryPrimitives : Obligations.SensorAccessesAreTheMemoryPrimitives := by
  refine ⟨fun s => ⟨_, exec_cfgw s, ?write⟩, fun s hselect => ?read⟩
  case write =>
    rw [raiseOnFail_eq]
    exact ⟨rfl, rfl, rfl, rfl⟩
  case read =>
    obtain ⟨t, hrun, heffect⟩ := readMotion_effect s
    refine ⟨t, hrun, ?_⟩
    cases heffect with
    | selectFail h => exact absurd (hselect.symm.trans h) (by decide)
    | burst _ hbrd =>
      cases hbrd with
      | brdOk b hread => exact ⟨rfl, rfl, rfl, fun b' hb => ReadResult.ok.inj (hread.symm.trans hb)⟩
      | brdFail hread =>
        exact ⟨failRead_calls .brd _, failRead_busLog .brd _, failRead_bench .brd _,
          fun b hb => absurd (hread.symm.trans hb) (by simp)⟩

/-! ## A bound sensor (20_memory.md section 6) -/

/-- A sensor answers its own address exactly when it is present. -/
@[simp] theorem RefSensor.answers_own (d : RefSensor) (own : BusAddr) : d.answers own own = d.present := by
  simp [RefSensor.answers]

/-- The six registers a burst read takes, from the pointer on (20_memory.md R55). -/
def RefSensor.burst (d : RefSensor) : Sample :=
  ⟨d.burstByte 0#8, d.burstByte 1#8, d.burstByte 2#8, d.burstByte 3#8, d.burstByte 4#8, d.burstByte 5#8⟩

section
variable {d : RefSensor} (hpresent : d.present = true) (own : BusAddr)
include hpresent

theorem RefSensor.afterWrite_select (r : Byte) : d.afterWrite own own [r] = { d with ptr := r } := by
  simp [RefSensor.afterWrite, hpresent]

theorem RefSensor.afterWrite_register (r v : Byte) :
    d.afterWrite own own [r, v] = { d with regs := Memory.write d.regs r.toNat v, ptr := r + 1#8 } := by
  simp [RefSensor.afterWrite, hpresent]

theorem RefSensor.writeResult_select (r : Byte) : d.writeResult own own [r] = .ok := by
  simp [RefSensor.writeResult, hpresent]

theorem RefSensor.writeResult_register (r v : Byte) : d.writeResult own own [r, v] = .ok := by
  simp [RefSensor.writeResult, hpresent]

theorem RefSensor.readResult_present : d.readResult own own = .ok d.burst := by
  simp [RefSensor.readResult, RefSensor.burst, hpresent]
end

/-- The burst read of a sensor whose pointer stands low enough not to wrap: six registers, the lowest first
(20_memory.md R55). -/
theorem RefSensor.sampleBytes_burst (d : RefSensor) (h : d.ptr.toNat + 5 ≤ 0xFF) :
    sampleBytes d.burst = (List.range 6).map (fun i => Memory.read d.regs (d.ptr.toNat + i)) := by
  have hbyte (i : Nat) (hi : i ≤ 5) : d.burstByte (BitVec.ofNat 8 i) = Memory.read d.regs (d.ptr.toNat + i) := by
    rw [RefSensor.burstByte, BitVec.toNat_add, BitVec.toNat_ofNat]
    congr 1
    omega
  simp only [sampleBytes, RefSensor.burst, List.range, List.range.loop, List.map_cons, List.map_nil]
  rw [← hbyte 0 (by omega), ← hbyte 1 (by omega), ← hbyte 2 (by omega), ← hbyte 3 (by omega), ← hbyte 4 (by omega),
    ← hbyte 5 (by omega)]

section
variable {s : State} {d : RefSensor} (hbench : s.bench = some d)
include hbench

theorem busWriteAnswer_of_bound (bytes : List Byte) :
    busWriteAnswer bytes s = d.writeResult s.config.devAddr s.config.devAddr bytes := by
  rw [busWriteAnswer, hbench]

theorem busReadAnswer_of_bound : busReadAnswer s = d.readResult s.config.devAddr s.config.devAddr := by
  rw [busReadAnswer, hbench]

theorem benchAfterWrite_of_bound (bytes : List Byte) :
    benchAfterWrite bytes s = some (d.afterWrite s.config.devAddr s.config.devAddr bytes) := by
  rw [benchAfterWrite, hbench, Option.map_some]

/-- The configuration write of a present sensor sets `CFG0` to `CFG1` and no other register (20_memory.md R54). -/
theorem exec_cfgw_of_present (hpresent : d.present = true) (hwf : memoryWf s = true) :
    ∃ t, exec .cfgw s = .next t ∧ t.errFlags = s.errFlags ∧
      ∀ a, benchRead t.bench a =
        some (if a = s.config.cfg0.toNat then s.config.cfg1 else Memory.read d.regs a) := by
  have hanswer : busWriteAnswer (cfgBytes s.config) s = .ok := by
    rw [busWriteAnswer_of_bound hbench, cfgBytes, RefSensor.writeResult_register hpresent]
  refine ⟨_, exec_cfgw s, by simp [hanswer], fun a => ?_⟩
  simp only [hanswer, raiseOnFail_ok, setPhase_bench, busWrite_bench]
  split
  · next ha =>
    have hregs : Memory.wf d.regs = true := by rwa [memoryWf, hbench] at hwf
    rw [benchAfterWrite_of_bound hbench, cfgBytes, RefSensor.afterWrite_register hpresent, ha]
    exact congrArg some (Memory.read_write_same _ _ _ hregs)
  · next ha => rw [benchRead_benchAfterWrite_cfg s ha, hbench]; rfl

/-- A select of a present sensor is good, and its burst read answers six registers from `REG_FIRST` on. -/
theorem readMotion_of_present (hpresent : d.present = true) (hfirst : s.config.regFirst.toNat + 5 ≤ 0xFF) :
    ∃ t, readMotion s = .next t ∧ t.rdOk = 1#1 ∧
      sampleBytes t.motion = (List.range 6).map (fun i => Memory.read d.regs (s.config.regFirst.toNat + i)) ∧
      ∀ a, benchRead t.bench a = benchRead s.bench a := by
  have hselect : busWriteAnswer (selectBytes s.config) s = .ok := by
    rw [busWriteAnswer_of_bound hbench, selectBytes, RefSensor.writeResult_select hpresent]
  have hpointer : (selected s).bench = some { d with ptr := s.config.regFirst } := by
    rw [selected, setPhase_bench, busWrite_bench, benchAfterWrite_of_bound hbench, selectBytes,
      RefSensor.afterWrite_select hpresent]
  refine ⟨_, (readMotion_of_ok s hselect).trans (exec_brd (selected s)), ?_⟩
  rw [busReadAnswer_of_bound hpointer, RefSensor.readResult_present (d := { d with ptr := s.config.regFirst }) hpresent]
  refine ⟨rfl, RefSensor.sampleBytes_burst { d with ptr := s.config.regFirst } hfirst, fun a => ?_⟩
  exact (benchRead_benchAfterRead (selected s) a).trans (benchRead_benchAfterWrite_select s a)

/-- A select of an absent sensor fails and leaves the sensor as it is. -/
theorem readMotion_of_absent (habsent : d.present = false) :
    ∃ t, readMotion s = .next t ∧ t.rdOk = 0#1 ∧ t.bench = s.bench := by
  have hselect : busWriteAnswer (selectBytes s.config) s = .fail := by
    rw [busWriteAnswer_of_bound hbench]
    simp [RefSensor.writeResult, habsent]
  refine ⟨_, readMotion_of_fail s hselect, by simp, ?_⟩
  simp [benchAfterWrite_of_bound hbench, hbench, RefSensor.afterWrite, habsent]
end

/-- Settles O54: the three clauses are the lemmas above. -/
theorem boundSensorAnswersFromItsRegisters : Obligations.BoundSensorAnswersFromItsRegisters :=
  ⟨fun _ _ => exec_cfgw_of_present, fun _ _ => readMotion_of_present, fun _ _ => readMotion_of_absent⟩

end Sys2Proof.Machine

/-! PROOFS of the family 'other': runs of several steps, the sample cycle, and what a cycle sends. -/

namespace Sys2Proof.Machine

/-! ## Runs of several steps -/

theorem andThen_runSteps_zero (o : Host.Outcome State Fault Refusal) : andThen o (runSteps 0) = o := by
  cases o <;> rfl

/-- One step whose operation is known. -/
theorem runSteps_one_of_phase {s : State} {i : Instr} (h : s.phase = encode i) : runSteps 1 s = exec i s := by
  rw [runSteps_succ, step_of_phase s i h, andThen_runSteps_zero]

/-- A run in two parts. -/
theorem runSteps_add (j k : Nat) (s : State) : runSteps (j + k) s = andThen (runSteps j s) (runSteps k) := by
  induction j generalizing s with
  | zero => rw [Nat.zero_add, runSteps_zero, andThen_next]
  | succ j ih =>
    rw [Nat.succ_add, runSteps_succ, runSteps_succ]
    cases step s with
    | next t => simp only [andThen_next, ih]
    | fault r => rfl
    | refused r => rfl

/-- Settles O38: `BINIT` leads to `CFGW`, and `CFGW` to the start of a cycle. -/
theorem startUpIsTwoStepsThenTheFirstCycle : Obligations.StartUpIsTwoStepsThenTheFirstCycle := by
  intro s hphase
  obtain ⟨a, hbinit, ha⟩ := exec_binit_reaches_cfgw s
  obtain ⟨t, hcfgw⟩ := exec_next .cfgw a
  refine ⟨t, ?run, ?startUp, ?phase⟩
  case run => rw [runSteps_of_phase 1 s a .binit hphase hbinit, runSteps_one_of_phase (i := .cfgw) ha, hcfgw]
  case startUp => rw [startUp, hbinit, andThen_next, hcfgw]
  case phase =>
    rw [← (exec_effect hbinit).config_eq]
    exact (exec_effect hcfgw).phase_eq_successor

/-! ## The way to the frame write (45_sample_loop.md R165, R169) -/

/-- The longest way from an operation to the frame write, in steps. -/
def stepsToFrameWrite : Instr → Nat
  | .txf => 0
  | .enc => 1
  | .poll => 2
  | .brd => 3
  | .rsel => 4
  | .txh => 5
  | .cfgw => 6
  | .wait => 6
  | .binit => 7

theorem stepsToFrameWrite_le (i : Instr) : stepsToFrameWrite i ≤ 7 := by
  cases i <;> decide

/-- The successor of an operation other than `TXF` is nearer to the frame write, and is not `WAIT`. -/
theorem successor_nearer (c : Config) (selected : Bool) {i : Instr} (hi : i ≠ .txf) :
    ∃ j, successor c selected i = encode j ∧ stepsToFrameWrite j < stepsToFrameWrite i ∧ j ≠ .wait := by
  cases i with
  | txf => exact absurd rfl hi
  | cfgw | wait =>
    rcases cycleStart_cases c with h | h
    · exact ⟨.txh, h, by decide, by decide⟩
    · exact ⟨.rsel, h, by decide, by decide⟩
  | rsel =>
    cases selected
    · exact ⟨.poll, rfl, by decide, by decide⟩
    · exact ⟨.brd, rfl, by decide, by decide⟩
  | binit => exact ⟨.cfgw, rfl, by decide, by decide⟩
  | txh => exact ⟨.rsel, rfl, by decide, by decide⟩
  | brd => exact ⟨.poll, rfl, by decide, by decide⟩
  | poll => exact ⟨.enc, rfl, by decide, by decide⟩
  | enc => exact ⟨.txf, rfl, by decide, by decide⟩

/-- The first frame write from `s` on is next after `k` steps, in `t`. -/
def FirstFrameWrite (s : State) (k : Nat) (t : State) : Prop :=
  runSteps k s = .next t ∧ t.phase = Phase.txf ∧ ∀ j u, j < k → runSteps j s = .next u → u.phase ≠ Phase.txf

/-- After a step, a run is the run from the next state, one step longer. -/
theorem runSteps_succ_of_step {s t : State} (h : step s = .next t) (k : Nat) : runSteps (k + 1) s = runSteps k t := by
  rw [runSteps_succ, h, andThen_next]

theorem FirstFrameWrite.of_step {s t u : State} {k : Nat} (hphase : s.phase ≠ Phase.txf) (hstep : step s = .next t)
    (h : FirstFrameWrite t k u) : FirstFrameWrite s (k + 1) u := by
  obtain ⟨hrun, hu, hfirst⟩ := h
  refine ⟨(runSteps_succ_of_step hstep k).trans hrun, hu, fun j v hj hv => ?_⟩
  cases j with
  | zero =>
    cases hv
    exact hphase
  | succ j => exact hfirst j v (by omega) ((runSteps_succ_of_step hstep j).symm.trans hv)

/-- The timed waits an operation asks for: one of `PERIOD_MS` by `WAIT`, none by another. -/
theorem delays_callsOf (s : State) (i : Instr) :
    (callsOf s i).filterMap Call.delayMs = if i = .wait then [s.config.periodMs] else [] := by
  cases i <;> simp [callsOf, Call.delayMs]

theorem encode_injective : Function.Injective encode := fun i j h => by
  have hdecode := congrArg decode h
  rw [decode_encode, decode_encode] at hdecode
  exact Decoded.instr.inj hdecode

/-- From every operation the first frame write comes within its bound, and the calls on the way ask for one wait if the
operation is `WAIT`, for none if it is not: by recursion along the successor table. -/
theorem exists_firstFrameWrite {s : State} {i : Instr} (hphase : s.phase = encode i) :
    ∃ k t new, k ≤ stepsToFrameWrite i ∧ FirstFrameWrite s k t ∧ t.calls = s.calls ++ new ∧
      new.filterMap Call.delayMs = if i = .wait then [s.config.periodMs] else [] := by
  by_cases hi : i = .txf
  · subst hi
    exact ⟨0, s, [], le_rfl, ⟨rfl, hphase, by simp⟩, by simp, by simp⟩
  · obtain ⟨t, hexec⟩ := exec_next i s
    have heffect := exec_effect hexec
    have hne : s.phase ≠ Phase.txf := fun h => hi (encode_injective (hphase.symm.trans h))
    obtain ⟨j, hj, hnearer, hwait⟩ := successor_nearer s.config
      (decide (busWriteAnswer (selectBytes s.config) s = .ok)) hi
    obtain ⟨k, u, new, hk, hfirst, hcalls, hdelays⟩ := exists_firstFrameWrite (heffect.phase_eq_successor.trans hj)
    refine ⟨k + 1, u, callsOf s i ++ new, by omega,
      .of_step hne ((step_of_phase s i hphase).trans hexec) hfirst, ?calls, ?delays⟩
    case calls => rw [hcalls, heffect.calls_eq, List.append_assoc]
    case delays => rw [List.filterMap_append, delays_callsOf, hdelays, if_neg hwait, List.append_nil]
termination_by stepsToFrameWrite i
decreasing_by exact hnearer

/-- Settles O36: `exists_firstFrameWrite`, with the bound 7 of every operation. -/
theorem everyCycleReachesTheFrameWrite : Obligations.EveryCycleReachesTheFrameWrite := by
  intro s hlegal
  obtain ⟨i, hi⟩ := decode_legal s.phase (of_decide_eq_true hlegal)
  obtain ⟨k, t, -, hk, ⟨hrun, ht, -⟩, -, -⟩ :=
    exists_firstFrameWrite (encode_of_decode _ _ hi).symm
  exact ⟨k, t, hk.trans (stepsToFrameWrite_le i), hrun, ht⟩

/-- Settles O37: `TXF` leads to `WAIT`, which asks for the one wait on the way to the next frame write. -/
theorem oneWholeWaitBetweenFrameWrites : Obligations.OneWholeWaitBetweenFrameWrites := by
  intro s hphase
  obtain ⟨a, hexec⟩ := exec_next .txf s
  have heffect := exec_effect hexec
  have hstep : step s = .next a := (step_of_phase s .txf hphase).trans hexec
  have ha : a.phase = encode .wait := heffect.phase_eq_successor
  obtain ⟨k, t, new, -, ⟨hrun, ht, hfirst⟩, hcalls, hdelays⟩ := exists_firstFrameWrite ha
  refine ⟨k + 1, t, by omega, (runSteps_succ_of_step hstep k).trans hrun, ht, fun j u hpos hj hu => ?first, ?wait⟩
  case first =>
    obtain ⟨j, rfl⟩ := Nat.exists_eq_add_one_of_ne_zero hpos.ne'
    exact hfirst j u (by omega) ((runSteps_succ_of_step hstep j).symm.trans hu)
  case wait =>
    rw [hcalls, heffect.calls_eq, List.append_assoc, List.drop_left, List.filterMap_append, delays_callsOf, hdelays,
      heffect.config_eq]
    rfl

/-! ## The sample cycle (30_encoding.md R95) -/

theorem headerWrite_of_folded {s : State} (h : s.config.headerSplit = false) : headerWrite s = .next s := by
  simp [headerWrite, h]

theorem headerWrite_of_split {s : State} (h : s.config.headerSplit = true) : headerWrite s =
    .next (setPhase Phase.rsel (streamWrite (headerBytes s.config) s)) := by
  simp [headerWrite, h, exec_txh]

/-- The frame a cycle sends from a state before its `POLL`. -/
def sentFrame (s : State) : Frame :=
  buildFrame s.config.header s.motion (pressEdge (pressedOf (buttonAnswer s)) s.trigPrev)

/-- The state after `POLL`; `ENC`; `TXF`; `WAIT`. -/
def afterSend (s : State) : State :=
  setPhase (cycleStart s.config) (delay s.config.periodMs
    (setPhase Phase.wait (streamWrite (frameBytes s.config (sentFrame s))
      (setPhase Phase.txf (setFrame (sentFrame s)
        (setPhase Phase.enc (setTrigger (pressEdge (pressedOf (buttonAnswer s)) s.trigPrev) (pressedOf (buttonAnswer s))
          (buttonLevel s))))))))

section
variable (s : State)
@[simp] theorem afterSend_phase : (afterSend s).phase = cycleStart s.config := rfl
@[simp] theorem afterSend_config : (afterSend s).config = s.config := rfl
@[simp] theorem afterSend_motion : (afterSend s).motion = s.motion := rfl
@[simp] theorem afterSend_frame : (afterSend s).frame = sentFrame s := rfl
@[simp] theorem afterSend_rdOk : (afterSend s).rdOk = s.rdOk := rfl
@[simp] theorem afterSend_trigPrev : (afterSend s).trigPrev = pressedOf (buttonAnswer s) := rfl
@[simp] theorem afterSend_errFlags : (afterSend s).errFlags = s.errFlags := rfl
@[simp] theorem afterSend_errLog : (afterSend s).errLog = s.errLog := rfl
@[simp] theorem afterSend_busLog : (afterSend s).busLog = s.busLog := rfl
@[simp] theorem afterSend_txStream : (afterSend s).txStream =
    s.txStream ++ delivered (frameBytes s.config (sentFrame s)) (streamAnswer s) := rfl
@[simp] theorem afterSend_calls : (afterSend s).calls = s.calls ++
    [.buttonLevel (buttonAnswer s), .streamWrite (frameBytes s.config (sentFrame s)) (streamAnswer s),
      .delay s.config.periodMs] := by
  simp [afterSend]
  rfl
end

/-- A cycle is its header write, its `read_motion()`, and the four operations that send the frame. -/
theorem sampleCycle_of_parts {s a b : State} (hheader : headerWrite s = .next a) (hread : readMotion a = .next b) :
    sampleCycle s = .next (afterSend b) := by
  rw [sampleCycle, hheader, andThen_next, hread]
  rfl

/-! ### The steps of a cycle -/

theorem runSteps_headerWrite {s : State} (h : s.phase = cycleStart s.config) :
    runSteps (if s.config.headerSplit then 1 else 0) s = headerWrite s := by
  unfold headerWrite
  split
  · next hsplit => exact runSteps_one_of_phase (i := .txh) (by rw [h, cycleStart, if_pos hsplit]; rfl)
  · rfl

theorem runSteps_readMotion {s : State} (h : s.phase = Phase.rsel) :
    runSteps (if busWriteAnswer (selectBytes s.config) s = .ok then 2 else 1) s = readMotion s := by
  cases hselect : busWriteAnswer (selectBytes s.config) s with
  | ok =>
    rw [readMotion_of_ok s hselect, if_pos rfl,
      runSteps_of_phase 1 s (selected s) .rsel h (by rw [exec_rsel, hselect]; rfl)]
    exact runSteps_one_of_phase (i := .brd) rfl
  | fail =>
    rw [readMotion_of_fail s hselect, if_neg (by decide), runSteps_one_of_phase (i := .rsel) h, exec_rsel, hselect]
    rfl

theorem runSteps_afterSend {s : State} (h : s.phase = Phase.poll) : runSteps 4 s = .next (afterSend s) := by
  rw [runSteps_of_phase 3 s _ .poll h (exec_poll s), runSteps_of_phase 2 _ _ .enc rfl (exec_enc _),
    runSteps_of_phase 1 _ _ .txf rfl (exec_txf _)]
  exact runSteps_one_of_phase (i := .wait) rfl

/-- The header write leads to the select and does not change its answer. -/
theorem headerWrite_next {s : State} (h : s.phase = cycleStart s.config) : ∃ a, headerWrite s = .next a ∧
    a.phase = Phase.rsel ∧ a.config = s.config ∧
    busWriteAnswer (selectBytes a.config) a = busWriteAnswer (selectBytes s.config) s := by
  cases hsplit : s.config.headerSplit with
  | true => exact ⟨_, headerWrite_of_split hsplit, rfl, rfl, rfl⟩
  | false =>
    have hphase : s.phase = Phase.rsel := by simpa [cycleStart, hsplit] using h
    exact ⟨_, headerWrite_of_folded hsplit, hphase, rfl, rfl⟩

/-- Settles O35: the run is the header write's, then `read_motion()`'s, then the four steps that send the frame. -/
theorem stepsOfACycleAreTheSampleCycle : Obligations.StepsOfACycleAreTheSampleCycle := by
  intro s hstart
  obtain ⟨a, hheader, ha, hconfig, hanswer⟩ := headerWrite_next hstart
  obtain ⟨b, hread, heffect⟩ := readMotion_effect a
  refine ⟨_, afterSend b, rfl, ?run, sampleCycle_of_parts hheader hread, rfl⟩
  have hcount : (if busWriteAnswer [s.config.regFirst] s = .ok then 6 else 5) =
      (if busWriteAnswer (selectBytes a.config) a = .ok then 2 else 1) + 4 := by
    rw [hanswer, selectBytes]
    split <;> rfl
  rw [hcount, runSteps_add, runSteps_headerWrite hstart, hheader, andThen_next, runSteps_add, runSteps_readMotion ha,
    hread, andThen_next, runSteps_afterSend heffect.untouched.1]

/-- Settles O43: the header write and the sending of the frame raise nothing, and `read_motion()` at most one error. -/
theorem atMostOneErrorPerCycle : Obligations.AtMostOneErrorPerCycle := by
  intro s t hcycle
  obtain ⟨a, hheader, hlog⟩ : ∃ a, headerWrite s = .next a ∧ a.errLog = s.errLog := by
    cases hsplit : s.config.headerSplit with
    | true => exact ⟨_, headerWrite_of_split hsplit, rfl⟩
    | false => exact ⟨_, headerWrite_of_folded hsplit, rfl⟩
  obtain ⟨b, hread, heffect⟩ := readMotion_effect a
  cases (sampleCycle_of_parts hheader hread).symm.trans hcycle
  rw [afterSend_errLog, ← hlog]
  exact heffect.errLog_cases

/-! ### What a cycle sends -/

/-- The eight bytes of the frame: the header, the adjusted sample, and the trigger byte of the level polled. -/
theorem sentFrame_toList (s : State) : (sentFrame s).toList =
    s.config.header :: (sampleBytes s.motion).map (esc s.config.header) ++
      [if s.trigPrev = 0#1 ∧ buttonAnswer s = 0#1 then 0x01#8 else 0x00#8] := by
  rw [← zext8_pressEdge_pressedOf]
  rfl

theorem frameBytes_of_folded {c : Config} (h : c.headerSplit = false) (f : Frame) : frameBytes c f = f.toList := by
  simp [frameBytes, h]

theorem frameBytes_of_split {c : Config} (h : c.headerSplit = true) (f : Frame) : frameBytes c f = f.body := by
  simp [frameBytes, h]

/-- The answers to a poll and to a stream write depend on their own feeds alone. -/
theorem buttonAnswer_congr {s t : State} (h : t.inputs.button = s.inputs.button) :
    buttonAnswer t = buttonAnswer s := by rw [buttonAnswer, buttonAnswer, h]

theorem streamAnswer_congr {s t : State} (h : t.inputs.stream = s.inputs.stream) :
    streamAnswer t = streamAnswer s := by rw [streamAnswer, streamAnswer, h]

/-- The burst read after a good select takes the next pending answer, where no sensor is bound. -/
theorem busReadAnswer_selected_of_unbound {s : State} (h : s.bench = none) :
    busReadAnswer (selected s) = s.inputs.busRead.answer Config.freeBusRead := by
  have hb : (selected s).bench = none := by simp [selected, benchAfterWrite, h]
  rw [busReadAnswer_of_unbound hb]
  simp [selected]

/-- A `read_motion()` whose two accesses are good commits the six bytes and raises nothing. -/
theorem ReadMotionEffect.good {s t : State} {m : Sample} (h : ReadMotionEffect s t)
    (hselect : busWriteAnswer (selectBytes s.config) s = .ok) (hburst : busReadAnswer (selected s) = .ok m) :
    t.motion = m ∧ t.rdOk = 1#1 ∧ t.errFlags = s.errFlags ∧ t.errLog = s.errLog ∧
    t.busLog = s.busLog ++
      [.write s.config.devAddr (selectBytes s.config) .ok, .read s.config.devAddr burstLength (.ok m)] ∧
    t.calls = s.calls ++ [.busWrite s.config.devAddr (selectBytes s.config) s.config.busTimeoutMs .ok,
      .busRead s.config.devAddr burstLength s.config.busTimeoutMs (.ok m)] := by
  cases h with
  | selectFail h => exact absurd (hselect.symm.trans h) (by decide)
  | burst _ hbrd =>
    cases hbrd with
    | brdFail hread => exact absurd (hburst.symm.trans hread) (by simp)
    | brdOk b hread =>
      cases hburst.symm.trans hread
      simp only [setPhase_busLog, setRdOk_busLog, setMotion_busLog, busRead_busLog, setPhase_calls, setRdOk_calls,
        setMotion_calls, busRead_calls, hread]
      simp [selected, hselect]

/-- A `read_motion()` that fails under `HOLD` keeps the sample and logs one error, at the access that failed. -/
theorem ReadMotionEffect.held {s t : State} (h : ReadMotionEffect s t) (hhold : s.config.failPolicy = .hold)
    (hfails : busWriteAnswer (selectBytes s.config) s = .ok → busReadAnswer (selected s) = .fail) :
    t.motion = s.motion ∧ t.rdOk = 0#1 ∧ t.errLog = s.errLog ++
      [.busTransferError (if busWriteAnswer (selectBytes s.config) s = .ok then .brd else .rsel)] := by
  cases h with
  | selectFail h => simp [h, failMotion_of_hold, hhold]
  | burst h hbrd =>
    cases hbrd with
    | brdOk b hread => exact absurd ((hfails h).symm.trans hread) (by simp)
    | brdFail => simp [h, failMotion_of_hold, hhold, selected]

/-- The frame write after a `read_motion()` of a folded build: the header, the sample then in `MOTION`, and the trigger
byte of the level polled. -/
theorem ReadMotionEffect.frameBytes_sentFrame {s t : State} (h : ReadMotionEffect s t)
    (hfolded : s.config.headerSplit = false) :
    frameBytes t.config (sentFrame t) = s.config.header :: (sampleBytes t.motion).map (esc s.config.header) ++
      [if s.trigPrev = 0#1 ∧ buttonAnswer s = 0#1 then 0x01#8 else 0x00#8] := by
  obtain ⟨-, hconfig, hprev, -, hbutton, -⟩ := h.untouched
  rw [hconfig, frameBytes_of_folded hfolded, sentFrame_toList, hconfig, hprev, buttonAnswer_congr hbutton]

/-- Settles O40: `read_motion()` commits the six bytes, and `afterSend` sends them. -/
theorem goodCycleCarriesTheSampleToTheStream : Obligations.GoodCycleCarriesTheSampleToTheStream := by
  intro s m raw writes reads levels outcomes hphase hfolded hbench hwrites hreads hlevels houtcomes trigger sent
  have hselect : busWriteAnswer (selectBytes s.config) s = .ok := by
    rw [busWriteAnswer_of_unbound hbench]
    exact (Feed.answer_next_of_pending _ hwrites).1
  have hburst : busReadAnswer (selected s) = .ok m := by
    rw [busReadAnswer_selected_of_unbound hbench]
    exact (Feed.answer_next_of_pending _ hreads).1
  have hraw : buttonAnswer s = raw := (Feed.answer_next_of_pending _ hlevels).1
  have haccept : streamAnswer s = .accept := (Feed.answer_next_of_pending _ houtcomes).1
  have hcycle : s.phase = cycleStart s.config := by simp [cycleStart, hfolded, hphase]
  obtain ⟨b, hread, heffect⟩ := readMotion_effect s
  obtain ⟨-, hconfig, -, hstream, hbutton, hfeed⟩ := heffect.untouched
  obtain ⟨hmotion, hrdOk, hflags, herrors, hbus, hcalls⟩ := heffect.good hselect hburst
  have hsent : frameBytes b.config (sentFrame b) = sent := by
    rw [heffect.frameBytes_sentFrame hfolded, hmotion, hraw]
  have hrun : runSteps 6 s = .next (afterSend b) := by
    obtain ⟨k, t, hk, hrun, hsample, -⟩ := stepsOfACycleAreTheSampleCycle s hcycle
    rw [if_neg (by simp [hfolded]), if_pos (show busWriteAnswer [s.config.regFirst] s = .ok from hselect),
      Nat.zero_add] at hk
    rw [← hk, hrun, ← hsample, sampleCycle_of_parts (headerWrite_of_folded hfolded) hread]
  refine ⟨afterSend b, hrun, ?phase, hmotion, hrdOk, ?trigPrev, hflags, herrors, ?stream, hbus, ?calls⟩
  case phase => rw [afterSend_phase, hconfig, ← hcycle, hphase]
  case trigPrev => rw [afterSend_trigPrev, buttonAnswer_congr hbutton, hraw, pressedOf]
  case stream => rw [afterSend_txStream, hstream, hsent, streamAnswer_congr hfeed, haccept, delivered_accept]
  case calls =>
    rw [afterSend_calls, hcalls, hsent, buttonAnswer_congr hbutton, hraw, streamAnswer_congr hfeed, haccept, hconfig,
      List.append_assoc]
    rfl

/-- Settles O41: a failed `read_motion()` keeps the sample under `HOLD`, and `afterSend` sends it. -/
theorem failedReadUnderHoldSendsTheOldSample : Obligations.FailedReadUnderHoldSendsTheOldSample := by
  intro s raw writes levels outcomes r _ hfolded hhold hbench hwrites hreads hlevels houtcomes trigger
  have hselect : busWriteAnswer (selectBytes s.config) s = r := by
    rw [busWriteAnswer_of_unbound hbench]
    exact (Feed.answer_next_of_pending _ hwrites).1
  have hburst (hok : busWriteAnswer (selectBytes s.config) s = .ok) : busReadAnswer (selected s) = .fail := by
    obtain ⟨reads, hpending⟩ := List.head?_eq_some_iff.mp (hreads (hselect.symm.trans hok))
    rw [busReadAnswer_selected_of_unbound hbench]
    exact (Feed.answer_next_of_pending _ hpending).1
  have hraw : buttonAnswer s = raw := (Feed.answer_next_of_pending _ hlevels).1
  have haccept : streamAnswer s = .accept := (Feed.answer_next_of_pending _ houtcomes).1
  obtain ⟨b, hread, heffect⟩ := readMotion_effect s
  obtain ⟨-, -, -, hstream, -, hfeed⟩ := heffect.untouched
  obtain ⟨hmotion, hrdOk, herrors⟩ := heffect.held hhold hburst
  rw [hselect] at herrors
  refine ⟨afterSend b, sampleCycle_of_parts (headerWrite_of_folded hfolded) hread, hmotion, hrdOk, ?stream, herrors⟩
  rw [afterSend_txStream, hstream, heffect.frameBytes_sentFrame hfolded, hmotion, hraw, streamAnswer_congr hfeed,
    haccept, delivered_accept]

/-- Settles O42: the header write takes the first outcome and the frame write the second; accepted together they put
the header and the body on the stream, which is the frame. -/
theorem splitCycleHasFourOutcomes : Obligations.SplitCycleHasFourOutcomes := by
  intro s header frame outcomes _ hsplit hpending
  obtain ⟨hfirst, hrest⟩ := Feed.answer_next_of_pending Config.freeStream hpending
  obtain ⟨b, hread, heffect⟩ := readMotion_effect (setPhase Phase.rsel (streamWrite (headerBytes s.config) s))
  obtain ⟨-, hconfig, -, hstream, -, hfeed⟩ := heffect.untouched
  have hsecond : streamAnswer b = frame :=
    (streamAnswer_congr hfeed).trans (Feed.answer_next_of_pending Config.freeStream hrest).1
  have hheader : delivered (headerBytes s.config) (streamAnswer s) = delivered [s.config.header] header :=
    congrArg _ hfirst
  simp only [setPhase_config, streamWrite_config, setPhase_txStream, streamWrite_txStream, hheader] at hconfig hstream
  refine ⟨afterSend b, sampleCycle_of_parts (headerWrite_of_split hsplit) hread, ?built, ?stream⟩
  case built =>
    rw [afterSend_frame, ← hconfig]
    exact buildFrame_built _ _ _
  case stream =>
    rw [afterSend_txStream, afterSend_frame, hstream, hsecond, hconfig, frameBytes_of_split hsplit, List.append_assoc]
    have hframe : (sentFrame b).toList = s.config.header :: (sentFrame b).body := by rw [← hconfig]; rfl
    cases header <;> cases frame <;> simp [hframe]

end Sys2Proof.Machine

/-! PROOFS of the family 'other': consecutive polls of the button, and where the header occurs on the stream. -/

namespace Sys2Proof.Machine

/-! ## Consecutive polls (43_edge_detector.md R139, 10_state.md R34) -/

/-- The state after a poll of the given level. -/
def polled (raw : Bit) (s : State) : State :=
  setPhase Phase.enc (setTrigger (pressEdge (pressedOf raw) s.trigPrev) (pressedOf raw)
    (buttonLevel { s with inputs := { s.inputs with button := ⟨[raw], 0⟩ } }))

@[simp] theorem polled_trigPrev (raw : Bit) (s : State) : (polled raw s).trigPrev = pressedOf raw := rfl

/-- The first poll gives the edge against `TRIG_PREV`; the others follow from the level it saw. -/
theorem pollRun_cons (raw : Bit) (raws : List Bit) (s : State) : pollRun (raw :: raws) s =
    (pressEdge (pressedOf raw) s.trigPrev :: (pollRun raws (polled raw s)).1, (pollRun raws (polled raw s)).2) := rfl

/-- Holding a button that is already pressed gives no pulse, and a release none. -/
theorem pollRun_held (n : Nat) (s : State) (h : s.trigPrev = 1#1) :
    pollRun (List.replicate n 0#1 ++ [1#1]) s = (List.replicate n 0#1 ++ [0#1], 0#1) := by
  induction n generalizing s with
  | zero =>
    rw [List.replicate_zero, List.nil_append, pollRun_cons, h]
    rfl
  | succ n ih =>
    rw [List.replicate_succ, List.cons_append, pollRun_cons, ih (polled 0#1 s) rfl, h]
    rfl

/-- Settles O44: the first poll sees the press, and the button is held from then on. -/
theorem onePulsePerPress : Obligations.OnePulsePerPress := by
  intro s n h
  rw [List.replicate_succ, List.cons_append, pollRun_cons, pollRun_held n (polled 0#1 s) rfl, h]
  rfl

/-- A poll that gives a pulse leaves `TRIG_PREV` set, and then the next gives none. -/
theorem pressEdge_not_twice (raw raw' prev : Bit) :
    ¬ (pressEdge (pressedOf raw) prev = 1#1 ∧ pressEdge (pressedOf raw') (pressedOf raw) = 1#1) := by
  revert raw raw' prev; decide

/-- Settles O45: two polls in a row are the first two of some run, by induction on the levels before them. -/
theorem noTwoPulsesInARow : Obligations.NoTwoPulsesInARow := by
  intro raws
  induction raws with
  | nil =>
    rintro s k ⟨hpulse, -⟩
    simp [pollRun] at hpulse
  | cons raw raws ih =>
    intro s k
    rw [pollRun_cons]
    cases k with
    | succ k => exact ih (polled raw s) k
    | zero =>
      cases raws with
      | nil => simp [pollRun]
      | cons raw' raws =>
        rw [pollRun_cons]
        simpa using pressEdge_not_twice raw raw' s.trigPrev

/-! ## The header on a stream of whole frames (70_reset_and_hazards.md R231) -/

/-- In a built frame, with a header that is no trigger byte, the header stands at offset 0 and nowhere else. -/
theorem FrameBuilt.eq_header_iff {header : Byte} {f : Frame} (h : FrameBuilt header f) (h0 : header ≠ 0x00#8)
    (h1 : header ≠ 0x01#8) {k : Nat} {b : Byte} (hb : f.toList[k]? = some b) : b = header ↔ k = 0 := by
  obtain ⟨hf0, ⟨hf1, hf2, hf3, hf4, hf5, hf6⟩, hf7⟩ := h
  have hf7 : f.f7 ≠ header := by
    rcases hf7 with hf7 | hf7 <;> rw [hf7]
    · exact h0.symm
    · exact h1.symm
  match k with
  | 0 | 1 | 2 | 3 | 4 | 5 | 6 | 7 =>
    obtain rfl := Option.some.inj hb
    simp [hf0, hf1, hf2, hf3, hf4, hf5, hf6, hf7]
  | k + 8 => cases hb

/-- On whole frames the header stands at the multiples of 8: by induction on the frames. -/
theorem eq_header_iff_of_frames {header : Byte} (h0 : header ≠ 0x00#8) (h1 : header ≠ 0x01#8) (frames : List Frame)
    (hframes : ∀ f ∈ frames, FrameBuilt header f) (k : Nat) (b : Byte)
    (hb : (frames.flatMap Frame.toList)[k]? = some b) : b = header ↔ k % 8 = 0 := by
  induction frames generalizing k with
  | nil => simp at hb
  | cons f frames ih =>
    have hlength : f.toList.length = 8 := rfl
    rw [List.flatMap_cons] at hb
    rcases Nat.lt_or_ge k 8 with hk | hk
    · rw [List.getElem?_append_left (by omega)] at hb
      rw [(hframes f List.mem_cons_self).eq_header_iff h0 h1 hb]
      omega
    · rw [List.getElem?_append_right (by omega), hlength] at hb
      rw [ih (fun g hg => hframes g (List.mem_cons_of_mem f hg)) (k - 8) hb]
      omega

/-- Settles O51: the stream of a folded build is whole frames. -/
theorem headerOccursOnlyAtFrameStarts : Obligations.HeaderOccursOnlyAtFrameStarts := by
  rintro s ⟨-, -, -, frames, hstream, hframes⟩ h0 h1 k b hb
  exact eq_header_iff_of_frames h0 h1 frames hframes k b (hstream ▸ hb)

end Sys2Proof.Machine
